-- ==== Sys2Proof/Word.lean ====
section
/-! DEFINITION. The word types of the EPD panel driver block: bytes, 16-bit words, pin levels (spec/00_scope.md R9). -/

namespace Sys2Proof

/-- An unsigned 8-bit value (R9). -/
abbrev Byte := BitVec 8

/-- An unsigned 16-bit value: a parameter register of an internal call (R24), a window or cursor row (R25). -/
abbrev Word16 := BitVec 16

/-- A pin level, `LOW` (0) or `HIGH` (1) (R9). -/
inductive Level
  | low
  | high
  deriving DecidableEq, Repr, Inhabited

/-- A level as a bit: `HIGH` is 1. -/
def Level.toBool : Level → Bool
  | .low => false
  | .high => true

/-- A bit as a level. -/
def Level.ofBool : Bool → Level
  | false => .low
  | true => .high

end Sys2Proof
end

