-- ==== Sys2Proof/Syntax.lean ====
section
/-! DEFINITION. The alphabets of the block: shim requests and events (R90, R39), the sixteen panel packets (R94),
the eleven host operations (R97), the instructions (every row of spec/opcode_table.json), images (R37), host program lines (R102). -/

namespace Sys2Proof

/-! ## Shim requests (R90) and the events of the history (R39) -/

/-- The three output pins (R33). -/
inductive OutPin
  | rst
  | dc
  | cs
  deriving DecidableEq, Repr

/-- The five resources the block acquires and releases (R90). -/
inductive Resource
  | rst
  | dc
  | cs
  | busy
  | spi
  deriving DecidableEq, Repr

/-- A shim request: all the block can do to the outside world (R90). -/
inductive Request
  | pinWrite (p : OutPin) (l : Level)
  | pinRead
  | spiWrite (b : Byte)
  | delay (ms : Nat)
  | acquire (r : Resource)
  | release (r : Resource)
  deriving DecidableEq, Repr

/-- How the shim answered a request, as the history records it: `ok`, `ok(l)` for a pin read, or `fail` (R90, R39). -/
inductive Reply
  | ok
  | level (l : Level)
  | fail
  deriving DecidableEq, Repr

/-- One event of the history: a request with its answer (R39). -/
structure Event where
  req : Request
  reply : Reply
  deriving DecidableEq, Repr

/-- What the environment (shim and panel) does with one request: whether it answers `fail`, and the level of `BUSY` at that
instant, which only a pin read looks at (R34, R90). -/
structure Answer where
  fails : Bool
  busy : Level
  deriving DecidableEq, Repr, Inhabited

/-- A transport frame: the level of `DC` and the byte (R92). -/
structure Frame where
  dc : Level
  byte : Byte
  deriving DecidableEq, Repr

/-- A captured packet: the command byte and its data bytes (R93). -/
structure RawPacket where
  cmd : Byte
  data : List Byte
  deriving DecidableEq, Repr

/-! ## Panel packets and host operations -/

/-- The sixteen panel packets, in the order of R94's table. -/
inductive PacketKind
  | driverOutputControl
  | boosterSoftStart
  | writeVcom
  | setDummyLinePeriod
  | setGateTime
  | dataEntryMode
  | writeLut
  | setRamXStartEnd
  | setRamYStartEnd
  | setRamXCounter
  | setRamYCounter
  | displayUpdateControl2
  | masterActivation
  | terminateFrameRw
  | writeRam
  | deepSleepMode
  deriving DecidableEq, Repr

/-- The eleven host operations (R97). -/
inductive HostOp
  | attach
  | init
  | setWindow
  | setCursor
  | turnOnDisplay
  | writeFrame
  | clear
  | pack
  | display
  | powerDown
  | teardown
  deriving DecidableEq, Repr

/-! ## Instructions -/

/-- One constructor per row of spec/opcode_table.json: the eleven host operations (operands in the operand registers, R97),
the five reserved host codes (R99), and the sixteen panel packets (R94), which carry their data bytes in transmission order. -/
inductive Instr
  | attach
  | init
  | setWindow
  | setCursor
  | turnOnDisplay
  | writeFrame
  | clear
  | pack
  | display
  | powerDown
  | teardown
  | reservedB
  | reservedC
  | reservedD
  | reservedE
  | reservedF
  | pktDriverOutputControl (d0 d1 d2 : Byte)
  | pktBoosterSoftStart (d0 d1 d2 : Byte)
  | pktWriteVcom (d0 : Byte)
  | pktSetDummyLinePeriod (d0 : Byte)
  | pktSetGateTime (d0 : Byte)
  | pktDataEntryMode (d0 : Byte)
  | pktWriteLut (data : List Byte)
  | pktSetRamXStartEnd (d0 d1 : Byte)
  | pktSetRamYStartEnd (d0 d1 d2 d3 : Byte)
  | pktSetRamXCounter (d0 : Byte)
  | pktSetRamYCounter (d0 d1 : Byte)
  | pktDisplayUpdateControl2 (d0 : Byte)
  | pktMasterActivation
  | pktTerminateFrameRw
  | pktWriteRam (data : List Byte)
  | pktDeepSleepMode (d0 : Byte)
  deriving DecidableEq, Repr

/-- An encoded instruction, before decoding: the 4-bit word written to host register `OP` (R97), or the bytes of one packet, the
command byte (sent with `DC` = `LOW`) first and the data bytes after it (R93). -/
inductive Code
  | host (op : BitVec 4)
  | packet (bytes : List Byte)
  deriving DecidableEq, Repr

/-! ## Inputs of the host -/

/-- The source image after the monochrome conversion: rows from the top, pixels from the left, `true` = "pure black"
(R37, R63, R216). A pixel that no row lists is non-black. -/
structure Image where
  rows : List (List Bool)
  deriving DecidableEq, Repr

/-- One line of a host program (R102); operands are unsigned numbers (R9). -/
inductive HostLine
  | attach
  | init
  | setWindow (x0 y0 x1 y1 : Nat)
  | setCursor (x y : Nat)
  | turnOnDisplay
  | writeFrame
  | clear (fill : Byte)
  | pack (w h : Nat) (img : Image)
  | display (w h : Nat) (img : Image)
  | powerDown
  | teardown
  deriving DecidableEq, Repr

end Sys2Proof
end

