-- ==== Sys2Proof/Config.lean ====
section
/-! DEFINITION. Parameters of the block: the fixed ones as constants (R7), the open ones as the fields of a configuration record
with the spec's defaults (R8, R36), and the free answers of the environment. -/

namespace Sys2Proof

namespace Config

/-! ## Fixed parameters (R7) -/

/-- `WIDTH`, logical pixel width. -/
abbrev width : Nat := 128
/-- `HEIGHT`, logical pixel height. -/
abbrev height : Nat := 296
/-- `ROW_BYTES` = `WIDTH/8`. -/
abbrev rowBytes : Nat := 16
/-- `FB_BYTES` = `(WIDTH/8)*HEIGHT`. -/
abbrev fbBytes : Nat := 4736
/-- `LUT_LEN`. -/
abbrev lutLen : Nat := 30
/-- `T_RST_HIGH1`, milliseconds. -/
abbrev tRstHigh1 : Nat := 200
/-- `T_RST_LOW`, milliseconds. -/
abbrev tRstLow : Nat := 5
/-- `T_RST_HIGH2`, milliseconds. -/
abbrev tRstHigh2 : Nat := 200
/-- `T_POLL`, milliseconds. -/
abbrev tPoll : Nat := 200
/-- `T_SETTLE`, milliseconds. -/
abbrev tSettle : Nat := 2000
/-- `SCAN_FLAGS`, third data byte of driver output control. -/
abbrev scanFlags : Byte := 0x00#8
/-- `DUC2_VALUE`, data byte of display update control 2. -/
abbrev duc2Value : Byte := 0xC4#8
/-- `DEEP_SLEEP_VALUE`, data byte of deep sleep mode. -/
abbrev deepSleepValue : Byte := 0x01#8
/-- `BUSY_ACTIVE`: the level of `BUSY` that means busy. -/
abbrev busyActive : Level := .high
/-- `DC_COMMAND`: the level of `DC` for a command byte. -/
abbrev dcCommand : Level := .low
/-- `DC_DATA`: the level of `DC` for a data byte. -/
abbrev dcData : Level := .high
/-- `CS_ASSERT`: the level of `CS` while a byte is transferred. -/
abbrev csAssert : Level := .low
/-- `CS` deasserted. -/
abbrev csDeassert : Level := .high
/-- `PACK_FILL`, the initial value of every packed byte. -/
abbrev packFill : Byte := 0xFF#8

end Config

/-! ## Open parameters (R8) -/

/-- Which waveform table INIT loads (R8, R32, D13). -/
inductive LutSelect
  | full
  | partialUpdate
  deriving DecidableEq, Repr

/-- The configuration record: the open parameters of R8, constant for the life of the block (R32). -/
structure Config where
  opDriverOutputControl : Byte
  opBoosterSoftStart : Byte
  opWriteVcom : Byte
  opSetDummyLinePeriod : Byte
  opSetGateTime : Byte
  opDataEntryMode : Byte
  opWriteLut : Byte
  opSetRamXStartEnd : Byte
  opSetRamYStartEnd : Byte
  opSetRamXCounter : Byte
  opSetRamYCounter : Byte
  opDisplayUpdateControl2 : Byte
  opMasterActivation : Byte
  opTerminateFrameRw : Byte
  opWriteRam : Byte
  opDeepSleepMode : Byte
  booster0 : Byte
  booster1 : Byte
  booster2 : Byte
  vcomValue : Byte
  dummyLineValue : Byte
  gateTimeValue : Byte
  dataEntryValue : Byte
  /-- ROM `LUT_FULL` (R36). -/
  lutFull : Vector Byte Config.lutLen
  /-- ROM `LUT_PARTIAL` (R36). -/
  lutPartial : Vector Byte Config.lutLen
  lutSelect : LutSelect
  /-- `PORTRAIT_CLEAR_ON_NONBLACK` (R221). -/
  portraitClearOnNonblack : Bool
  /-- `BUSY_TIMEOUT_POLLS`: none, or a count (R135). -/
  busyTimeoutPolls : Option Nat
  /-- `SHIM_CAN_FAIL`: whether a shim request may answer `fail` (R11). -/
  shimCanFail : Bool
  /-- `SPI_MSB_FIRST`, used by the signal-level refinement R138 only. -/
  spiMsbFirst : Bool
  /-- `SPI_HZ`, the SPI clock rate; no rule depends on it. -/
  spiHz : Nat
  /-- `ARGW`, the width in bits of the operand registers (R23, D4). -/
  argw : Nat
  deriving DecidableEq, Repr

namespace Config

/-- PRESUMED (the spec's own general-knowledge defaults, 93_implementation_defined.md G1 to G4; log entry 2): the defaults
of R8 and R36. -/
def default : Config where
  opDriverOutputControl := 0x01#8
  opBoosterSoftStart := 0x0C#8
  opWriteVcom := 0x2C#8
  opSetDummyLinePeriod := 0x3A#8
  opSetGateTime := 0x3B#8
  opDataEntryMode := 0x11#8
  opWriteLut := 0x32#8
  opSetRamXStartEnd := 0x44#8
  opSetRamYStartEnd := 0x45#8
  opSetRamXCounter := 0x4E#8
  opSetRamYCounter := 0x4F#8
  opDisplayUpdateControl2 := 0x22#8
  opMasterActivation := 0x20#8
  opTerminateFrameRw := 0xFF#8
  opWriteRam := 0x24#8
  opDeepSleepMode := 0x10#8
  booster0 := 0xD7#8
  booster1 := 0xD6#8
  booster2 := 0x9D#8
  vcomValue := 0xA8#8
  dummyLineValue := 0x1A#8
  gateTimeValue := 0x08#8
  dataEntryValue := 0x03#8
  lutFull := #v[0x02#8, 0x02#8, 0x01#8, 0x11#8, 0x12#8, 0x12#8, 0x22#8, 0x22#8, 0x66#8, 0x69#8, 0x69#8, 0x59#8, 0x58#8,
    0x99#8, 0x99#8, 0x88#8, 0x00#8, 0x00#8, 0x00#8, 0x00#8, 0xF8#8, 0xB4#8, 0x13#8, 0x51#8, 0x35#8, 0x51#8, 0x51#8,
    0x19#8, 0x01#8, 0x00#8]
  lutPartial := #v[0x10#8, 0x18#8, 0x18#8, 0x08#8, 0x18#8, 0x18#8, 0x08#8, 0x00#8, 0x00#8, 0x00#8, 0x00#8, 0x00#8, 0x00#8,
    0x00#8, 0x00#8, 0x00#8, 0x00#8, 0x00#8, 0x00#8, 0x00#8, 0x13#8, 0x14#8, 0x44#8, 0x12#8, 0x00#8, 0x00#8, 0x00#8,
    0x00#8, 0x00#8, 0x00#8]
  lutSelect := .full
  portraitClearOnNonblack := true
  busyTimeoutPolls := none
  shimCanFail := true
  spiMsbFirst := true
  spiHz := 4000000
  argw := 16

/-- DESIGN CHOICE (log entry 5): the free answers of the environment. The `n`th request of a run that no script covers is
answered by this uninterpreted constant: whether it fails and what level `BUSY` has are not known. -/
opaque freeAnswer : Nat → Answer

end Config

end Sys2Proof
end

