-- ==== Sys2Proof/WellFormed.lean ====
section
/-! DEFINITION. Well-formed instructions (the data-frame counts of R94) and well-formed configurations (R8, R135). -/

namespace Sys2Proof

/-- An instruction is well formed when a packet has exactly the number of data bytes R94 lists: 30 for write LUT register, 16 for
write RAM; the other counts are fixed by the constructors. -/
def Instr.wf : Instr → Bool
  | .pktWriteLut data => data.length == Config.lutLen
  | .pktWriteRam data => data.length == Config.rowBytes
  | .attach | .init | .setWindow | .setCursor | .turnOnDisplay | .writeFrame | .clear | .pack | .display | .powerDown
  | .teardown | .reservedB | .reservedC | .reservedD | .reservedE | .reservedF => true
  | .pktDriverOutputControl _ _ _ | .pktBoosterSoftStart _ _ _ | .pktWriteVcom _ | .pktSetDummyLinePeriod _
  | .pktSetGateTime _ | .pktDataEntryMode _ | .pktSetRamXStartEnd _ _ | .pktSetRamYStartEnd _ _ _ _
  | .pktSetRamXCounter _ | .pktSetRamYCounter _ _ | .pktDisplayUpdateControl2 _ | .pktMasterActivation
  | .pktTerminateFrameRw | .pktDeepSleepMode _ => true

/-- A configuration is well formed when a poll limit, if there is one, is at least 1 (R135: "a count `N >= 1`"). -/
def Config.wf (c : Config) : Bool :=
  match c.busyTimeoutPolls with
  | none => true
  | some n => decide (1 ≤ n)

/-- The sixteen command bytes of a configuration, in the order of R94. -/
def Config.commandBytes (c : Config) : List Byte :=
  [c.opDriverOutputControl, c.opBoosterSoftStart, c.opWriteVcom, c.opSetDummyLinePeriod, c.opSetGateTime, c.opDataEntryMode,
    c.opWriteLut, c.opSetRamXStartEnd, c.opSetRamYStartEnd, c.opSetRamXCounter, c.opSetRamYCounter,
    c.opDisplayUpdateControl2, c.opMasterActivation, c.opTerminateFrameRw, c.opWriteRam, c.opDeepSleepMode]

/-- The command bytes are pairwise distinct. The spec does not require it (R8, U20); a packet can be told apart by its
command byte only then. -/
def Config.distinctCommands (c : Config) : Bool := decide c.commandBytes.Nodup

end Sys2Proof
end

