-- ==== Sys2Proof/Decode.lean ====
section
/-! DEFINITION. Decoding and encoding: the host operation word (R97, R99), panel packets (R93, R94), and the reference decoder for
captured histories (R96). -/

namespace Sys2Proof

/-! ## Panel packets (R94) -/

/-- The command byte of a packet: the configuration parameter `OP_*` R94 names. -/
def commandByte (c : Config) : PacketKind → Byte
  | .driverOutputControl => c.opDriverOutputControl
  | .boosterSoftStart => c.opBoosterSoftStart
  | .writeVcom => c.opWriteVcom
  | .setDummyLinePeriod => c.opSetDummyLinePeriod
  | .setGateTime => c.opSetGateTime
  | .dataEntryMode => c.opDataEntryMode
  | .writeLut => c.opWriteLut
  | .setRamXStartEnd => c.opSetRamXStartEnd
  | .setRamYStartEnd => c.opSetRamYStartEnd
  | .setRamXCounter => c.opSetRamXCounter
  | .setRamYCounter => c.opSetRamYCounter
  | .displayUpdateControl2 => c.opDisplayUpdateControl2
  | .masterActivation => c.opMasterActivation
  | .terminateFrameRw => c.opTerminateFrameRw
  | .writeRam => c.opWriteRam
  | .deepSleepMode => c.opDeepSleepMode

/-- The number of data frames of a packet: column `n` of R94. -/
def dataCount : PacketKind → Nat
  | .driverOutputControl => 3
  | .boosterSoftStart => 3
  | .writeVcom => 1
  | .setDummyLinePeriod => 1
  | .setGateTime => 1
  | .dataEntryMode => 1
  | .writeLut => 30
  | .setRamXStartEnd => 2
  | .setRamYStartEnd => 4
  | .setRamXCounter => 1
  | .setRamYCounter => 2
  | .displayUpdateControl2 => 1
  | .masterActivation => 0
  | .terminateFrameRw => 0
  | .writeRam => 16
  | .deepSleepMode => 1

/-- All packet kinds, in the order of R94. -/
def allKinds : List PacketKind :=
  [.driverOutputControl, .boosterSoftStart, .writeVcom, .setDummyLinePeriod, .setGateTime, .dataEntryMode, .writeLut,
    .setRamXStartEnd, .setRamYStartEnd, .setRamXCounter, .setRamYCounter, .displayUpdateControl2, .masterActivation,
    .terminateFrameRw, .writeRam, .deepSleepMode]

/-- The packet of a given kind with the given data bytes, or none when the number of data bytes is not R94's. -/
def packetInstr : PacketKind → List Byte → Option Instr
  | .driverOutputControl, [a, b, c] => some (.pktDriverOutputControl a b c)
  | .boosterSoftStart, [a, b, c] => some (.pktBoosterSoftStart a b c)
  | .writeVcom, [a] => some (.pktWriteVcom a)
  | .setDummyLinePeriod, [a] => some (.pktSetDummyLinePeriod a)
  | .setGateTime, [a] => some (.pktSetGateTime a)
  | .dataEntryMode, [a] => some (.pktDataEntryMode a)
  | .writeLut, data => if data.length = 30 then some (.pktWriteLut data) else none
  | .setRamXStartEnd, [a, b] => some (.pktSetRamXStartEnd a b)
  | .setRamYStartEnd, [a, b, c, d] => some (.pktSetRamYStartEnd a b c d)
  | .setRamXCounter, [a] => some (.pktSetRamXCounter a)
  | .setRamYCounter, [a, b] => some (.pktSetRamYCounter a b)
  | .displayUpdateControl2, [a] => some (.pktDisplayUpdateControl2 a)
  | .masterActivation, [] => some .pktMasterActivation
  | .terminateFrameRw, [] => some .pktTerminateFrameRw
  | .writeRam, data => if data.length = 16 then some (.pktWriteRam data) else none
  | .deepSleepMode, [a] => some (.pktDeepSleepMode a)
  | _, _ => none

/-- The kind whose command byte is `b`, the first one in R94's order (U20: two command bytes may be equal; log entry
16). -/
def kindOf (c : Config) (b : Byte) : Option PacketKind :=
  allKinds.find? (fun k => commandByte c k == b)

/-! ## Decoding -/

/-- Why bytes are no instruction. -/
inductive DecodeError
  /-- No byte at all: a packet begins with a command frame (R93). -/
  | empty
  /-- The command byte is none of the sixteen (R99 (4)). -/
  | unknownCommand (b : Byte)
  /-- The packet has not the number of data frames of R94 (R99 (4)). -/
  | wrongDataCount (k : PacketKind) (n : Nat)
  deriving DecidableEq, Repr

/-- Decode the 4-bit host operation word (R97; reserved codes R99): total. -/
def decodeHost (op : BitVec 4) : Instr :=
  match op.toNat with
  | 0x0 => .attach
  | 0x1 => .init
  | 0x2 => .setWindow
  | 0x3 => .setCursor
  | 0x4 => .turnOnDisplay
  | 0x5 => .writeFrame
  | 0x6 => .clear
  | 0x7 => .pack
  | 0x8 => .display
  | 0x9 => .powerDown
  | 0xA => .teardown
  | 0xB => .reservedB
  | 0xC => .reservedC
  | 0xD => .reservedD
  | 0xE => .reservedE
  | _ => .reservedF

/-- Decode the bytes of one packet, command byte first (R93, R94). -/
def decodePacket (c : Config) : List Byte → Except DecodeError Instr
  | [] => .error .empty
  | b :: data =>
    match kindOf c b with
    | none => .error (.unknownCommand b)
    | some k =>
      match packetInstr k data with
      | some i => .ok i
      | none => .error (.wrongDataCount k data.length)

/-- The decoder: total on every code. -/
def decode (c : Config) : Code → Except DecodeError Instr
  | .host op => .ok (decodeHost op)
  | .packet bytes => decodePacket c bytes

/-! ## Encoding -/

/-- The code of a host operation (R97). -/
def HostOp.code : HostOp → BitVec 4
  | .attach => 0x0#4
  | .init => 0x1#4
  | .setWindow => 0x2#4
  | .setCursor => 0x3#4
  | .turnOnDisplay => 0x4#4
  | .writeFrame => 0x5#4
  | .clear => 0x6#4
  | .pack => 0x7#4
  | .display => 0x8#4
  | .powerDown => 0x9#4
  | .teardown => 0xA#4

/-- The instruction that issues a host operation. -/
def HostOp.instr : HostOp → Instr
  | .attach => .attach
  | .init => .init
  | .setWindow => .setWindow
  | .setCursor => .setCursor
  | .turnOnDisplay => .turnOnDisplay
  | .writeFrame => .writeFrame
  | .clear => .clear
  | .pack => .pack
  | .display => .display
  | .powerDown => .powerDown
  | .teardown => .teardown

/-- The kind and the data bytes of a packet instruction, none for a host operation or a reserved code (R94). -/
def Instr.packetParts : Instr → Option (PacketKind × List Byte)
  | .attach | .init | .setWindow | .setCursor | .turnOnDisplay | .writeFrame | .clear | .pack | .display | .powerDown
  | .teardown | .reservedB | .reservedC | .reservedD | .reservedE | .reservedF => none
  | .pktDriverOutputControl a b d => some (.driverOutputControl, [a, b, d])
  | .pktBoosterSoftStart a b d => some (.boosterSoftStart, [a, b, d])
  | .pktWriteVcom a => some (.writeVcom, [a])
  | .pktSetDummyLinePeriod a => some (.setDummyLinePeriod, [a])
  | .pktSetGateTime a => some (.setGateTime, [a])
  | .pktDataEntryMode a => some (.dataEntryMode, [a])
  | .pktWriteLut data => some (.writeLut, data)
  | .pktSetRamXStartEnd a b => some (.setRamXStartEnd, [a, b])
  | .pktSetRamYStartEnd a b d e => some (.setRamYStartEnd, [a, b, d, e])
  | .pktSetRamXCounter a => some (.setRamXCounter, [a])
  | .pktSetRamYCounter a b => some (.setRamYCounter, [a, b])
  | .pktDisplayUpdateControl2 a => some (.displayUpdateControl2, [a])
  | .pktMasterActivation => some (.masterActivation, [])
  | .pktTerminateFrameRw => some (.terminateFrameRw, [])
  | .pktWriteRam data => some (.writeRam, data)
  | .pktDeepSleepMode a => some (.deepSleepMode, [a])

/-- The bytes of a packet: the command byte, then the data bytes (R93). -/
def packetCode (c : Config) (k : PacketKind) (data : List Byte) : Code := .packet (commandByte c k :: data)

/-- The encoder, from the tables of R97, R99 and R94. -/
def encode (c : Config) : Instr → Code
  | .attach => .host 0x0#4
  | .init => .host 0x1#4
  | .setWindow => .host 0x2#4
  | .setCursor => .host 0x3#4
  | .turnOnDisplay => .host 0x4#4
  | .writeFrame => .host 0x5#4
  | .clear => .host 0x6#4
  | .pack => .host 0x7#4
  | .display => .host 0x8#4
  | .powerDown => .host 0x9#4
  | .teardown => .host 0xA#4
  | .reservedB => .host 0xB#4
  | .reservedC => .host 0xC#4
  | .reservedD => .host 0xD#4
  | .reservedE => .host 0xE#4
  | .reservedF => .host 0xF#4
  | .pktDriverOutputControl a b d => packetCode c .driverOutputControl [a, b, d]
  | .pktBoosterSoftStart a b d => packetCode c .boosterSoftStart [a, b, d]
  | .pktWriteVcom a => packetCode c .writeVcom [a]
  | .pktSetDummyLinePeriod a => packetCode c .setDummyLinePeriod [a]
  | .pktSetGateTime a => packetCode c .setGateTime [a]
  | .pktDataEntryMode a => packetCode c .dataEntryMode [a]
  | .pktWriteLut data => packetCode c .writeLut data
  | .pktSetRamXStartEnd a b => packetCode c .setRamXStartEnd [a, b]
  | .pktSetRamYStartEnd a b d e => packetCode c .setRamYStartEnd [a, b, d, e]
  | .pktSetRamXCounter a => packetCode c .setRamXCounter [a]
  | .pktSetRamYCounter a b => packetCode c .setRamYCounter [a, b]
  | .pktDisplayUpdateControl2 a => packetCode c .displayUpdateControl2 [a]
  | .pktMasterActivation => packetCode c .masterActivation []
  | .pktTerminateFrameRw => packetCode c .terminateFrameRw []
  | .pktWriteRam data => packetCode c .writeRam data
  | .pktDeepSleepMode a => packetCode c .deepSleepMode [a]

/-! ## The words of spec/opcode_table.json -/

/-- Byte `n` of the number `w`, byte 0 being its low eight bits. -/
def byteOf (w n : Nat) : Byte := BitVec.ofNat 8 (w / 2 ^ (8 * n))

/-- The code a table word stands for (log entry 13). A word of at most one byte below 16 is a host operation word (R97). Any
other word is a packet: its first byte is the command byte, and as many data bytes follow as R94 gives that command (under
`c`), each read from the word, the bytes above the word being zero. -/
def tableCode (c : Config) (nbits w : Nat) : Code :=
  if nbits ≤ 8 ∧ w < 16 then .host (BitVec.ofNat 4 w)
  else
    let cmd := byteOf w 0
    let n := match kindOf c cmd with
      | some k => dataCount k
      | none => 0
    .packet (cmd :: (List.range n).map (fun m => byteOf (w % 2 ^ nbits) (m + 1)))

/-- What the decoder reads from a table word, under the default command bytes. -/
def decodeTableWord (nbits w : Nat) : Option Instr :=
  match decode Config.default (tableCode Config.default nbits w) with
  | .ok i => some i
  | .error _ => none

/-! ## The reference decoder for captured histories (R96) -/

/-- Whether an event can belong to a frame: a write of `DC` or `CS`, or an SPI write. Writes of `RST` belong to no frame, and
every other event is dropped (R96). DESIGN CHOICE (log entry 21): R96's "possibly interleaved" does not say whether a write of
`RST` may stand between the four events of one frame; here it may, anywhere. -/
def Event.framing (e : Event) : Bool :=
  match e.req with
  | .pinWrite .rst _ => false
  | .pinWrite .dc _ => true
  | .pinWrite .cs _ => true
  | .spiWrite _ => true
  | .pinRead | .delay _ | .acquire _ | .release _ => false

/-- Parse framing events as a sequence of the 4-event frames of R92. DEDUCED (log entry 14): TEARDOWN's one write of `DC`
(R202), which no frame follows, may stand at the end. DESIGN CHOICE (log entry 25): R96 speaks of histories without `fail` answers
only; here a history with a framing event answered `fail` does not parse. -/
def parseFrames : List Event → Option (List Frame)
  | [] => some []
  | [⟨.pinWrite .dc .low, .ok⟩] => some []
  | ⟨.pinWrite .dc d, .ok⟩ :: ⟨.pinWrite .cs .low, .ok⟩ :: ⟨.spiWrite b, .ok⟩ :: ⟨.pinWrite .cs .high, .ok⟩ :: rest =>
    (parseFrames rest).map (fun fs => ⟨d, b⟩ :: fs)
  | _ => none

/-- Split frames into the data bytes before the first command frame and the packets after them (R93). -/
def groupFrames : List Frame → List Byte × List RawPacket
  | [] => ([], [])
  | f :: fs =>
    match f.dc with
    | .high => (f.byte :: (groupFrames fs).1, (groupFrames fs).2)
    | .low => ([], ⟨f.byte, (groupFrames fs).1⟩ :: (groupFrames fs).2)

/-- The reference decoder: the packets of a captured history, or none when it does not parse (R96). -/
def decodeHistory (hist : List Event) : Option (List RawPacket) :=
  match parseFrames (hist.filter Event.framing) with
  | none => none
  | some fs => if (groupFrames fs).1 = [] then some (groupFrames fs).2 else none

end Sys2Proof
end

