-- ==== Sys2Proof/Machine/State.lean ====
section
/-! DEFINITION. The state of the block (R20 to R41), its ghost state (R39, R71), its inputs, the fault and refusal reasons, and
block reset (R41, R270). -/

namespace Sys2Proof.Machine

/-! ## Lifecycle (R21) -/

/-- The lifecycle states of R21; R21's codes are given by `Life.code` (Flags.lean). -/
inductive Life
  | unbound
  | uninitialized
  | reset
  | waveformLoaded
  | ready
  | busy
  | sleeping
  | faulted
  | released
  deriving DecidableEq, Repr

/-! ## Sequencer (R26, R27) -/

/-- The routines of R26: idle, the eleven host operations, the five internal routines. -/
inductive Routine
  | idle
  | op (o : HostOp)
  | sendCommand
  | sendData
  | waitIdle
  | resetSeq
  | loadLut
  deriving DecidableEq, Repr

/-- The sequencer program counter: a routine and the index of its next line (R26). -/
structure PC where
  routine : Routine
  step : Nat
  deriving DecidableEq, Repr

/-! ## Registers -/

/-- The operand registers (R23). DEDUCED (log entry 24): all but `argFill` are `ARGW` bits wide, unsigned numbers below `2^ARGW`
(R9), which `operandValue` (Operands.lean) sees to where the host writes them. -/
structure Operands where
  argX0 : Nat
  argY0 : Nat
  argX1 : Nat
  argY1 : Nat
  argFill : Byte
  imgW : Nat
  imgH : Nat
  deriving DecidableEq, Repr

/-- The loop counters and `polls` (R24), as naturals (D31). -/
structure Counters where
  j : Nat
  i : Nat
  k : Nat
  a : Nat
  px : Nat
  py : Nat
  polls : Nat
  deriving DecidableEq, Repr

/-- The parameter registers of internal calls (R24, R172). `tFill` holds CLEAR's `color`, "sampled at acceptance" (R183); the
spec gives that sample no register name. -/
structure Params where
  tByte : Byte
  tX0 : Word16
  tY0 : Word16
  tX1 : Word16
  tY1 : Word16
  tFill : Byte
  deriving DecidableEq, Repr

/-- The shadow window and cursor registers (R25). -/
structure Shadow where
  winXs : Byte
  winXe : Byte
  winYs : Word16
  winYe : Word16
  curX : Byte
  curY : Word16
  winValid : Bool
  curValid : Bool
  deriving DecidableEq, Repr

/-- The four flags (R28). -/
structure Flags where
  active : Bool
  busySample : Bool
  fbValid : Bool
  fault : Bool
  deriving DecidableEq, Repr

/-- The values of `err_code` (R31, R240). -/
inductive ErrCode
  | ok
  | resourceUnavailable
  | transportFailure
  | unsupportedInput
  | hardwareNeverIdle
  | invalidState
  | illegalOperation
  deriving DecidableEq, Repr

/-- An error with the information `raise` is given: for a transport failure, the failed request (R240). -/
inductive Cause
  | resourceUnavailable
  | transportFailure (r : Request)
  | unsupportedInput
  | hardwareNeverIdle
  | invalidState
  | illegalOperation
  deriving DecidableEq, Repr

/-- The result and error registers (R31). -/
structure Results where
  errCode : ErrCode
  errOp : BitVec 4
  errInfo : Byte
  deriving DecidableEq, Repr

/-- An output latch: driven to a level, or `undriven` (R33). -/
inductive Latch
  | undriven
  | driven (l : Level)
  deriving DecidableEq, Repr

/-- The output latches and the ownership bits (R33). -/
structure Pins where
  rst : Latch
  dc : Latch
  cs : Latch
  ownRst : Bool
  ownDc : Bool
  ownCs : Bool
  ownBusy : Bool
  ownSpi : Bool
  deriving DecidableEq, Repr

/-! ## Memories and ghost state -/

/-- A memory: (address, byte) pairs in strictly rising order of address (R60, R61). -/
abbrev Memory := List Host.Cell

/-- Ghost state for claims about the panel (R71, R72); no rule of the block reads it. -/
structure Panel where
  /-- `panel_ram`, keyed by `16*y + xb`; an unlisted key is `unknown` (R71). -/
  ram : Memory
  /-- `shown`, what the glass shows, keyed alike (R71). -/
  shown : Memory
  /-- The rows that the WRITE_FRAME which ended in an error left in panel RAM (R182), keyed alike: what had been put there when it
  failed. Nothing listed once a packet or a reset has reached the panel since. `ram` is unknown meanwhile (R272; log entry 8). -/
  left : Memory
  /-- The packet whose command frame was begun last (R93). -/
  sending : Option PacketKind
  /-- How many of its data bytes are complete. -/
  sent : Nat
  /-- Whether the write-RAM packet under way has met R72 (1) so far. -/
  inWindow : Bool
  /-- Whether the X counter was set after the last window set, with no write-RAM packet since (R72 (1)). -/
  cursorX : Bool
  /-- Whether the whole cursor was (R72 (1)). -/
  cursorFresh : Bool
  /-- Whether the panel may be asleep: deep sleep was commanded since the last panel reset, or there was none since block
  reset (R38, R255, R41; log entries 9, 23). -/
  asleep : Bool
  /-- Whether a refresh may be under way: one was started whose end no TURN_ON_DISPLAY has seen, or there was no panel reset
  since block reset (R38, U7, R41; log entries 9, 23). -/
  refreshing : Bool
  deriving DecidableEq, Repr

/-! ## Inputs -/

/-- How requests beyond the script are answered: by the free constant `Config.freeAnswer`, or all alike. -/
inductive Tail
  | free
  | steady (a : Answer)
  deriving DecidableEq, Repr

/-- The environment (shim and panel): the answer to request number `n` since reset is `script[n]`, and `tail`'s beyond the
script (R13, R34, R90). -/
structure Env where
  script : List Answer
  tail : Tail
  deriving DecidableEq, Repr

/-- One pending act of the host, or a packet given to the transmitter by the model's own port (log entry 12). -/
inductive Pending
  /-- A write of a host register (R29); writing register 0, `OP`, issues an operation. -/
  | write (reg : Nat) (v : Nat)
  /-- The host presents a source image (R37, R102). -/
  | image (img : Image)
  /-- The bytes of a packet, command byte first (R93). -/
  | packet (bytes : List Byte)
  deriving DecidableEq, Repr

/-! ## State -/

/-- The state of the machine: the block (R20), its ghost state (R39, R71), its configuration (R8) and its inputs. -/
structure State where
  /-- The configuration, with the two waveform ROMs: constant (R32, R36). -/
  cfg : Config
  /-- `life` (R21). -/
  life : Life
  /-- Operand registers (R23). -/
  args : Operands
  /-- Working counters (R24). -/
  cnt : Counters
  /-- Parameter registers (R24, R172). -/
  tmp : Params
  /-- Shadow window and cursor registers (R25). -/
  shadow : Shadow
  /-- Sequencer program counter (R26). -/
  pc : PC
  /-- Return stack, innermost first (R27). -/
  rs : List PC
  /-- Flags (R28). -/
  flags : Flags
  /-- Result and error registers (R31). -/
  res : Results
  /-- Pin latches and ownership bits (R33). -/
  pins : Pins
  /-- The packed framebuffer `FB` (R35, R61). -/
  fb : Memory
  /-- Ghost: the event history, oldest first (R39). -/
  hist : List Event
  /-- Ghost: the panel (R71). -/
  panel : Panel
  /-- Input: the source image the host presents (R37). -/
  img : Image
  /-- Input: how the shim and the panel answer (R34, R90). -/
  env : Env
  /-- Input: the host's pending acts, oldest first (R40, R102). -/
  inbox : List Pending
  deriving DecidableEq, Repr

/-! ## Reasons to stop -/

/-- Faults. Each marks a situation the spec says cannot arise; all are safe (the run stops). -/
inductive Fault
  /-- Raised by the sequencer at a `pc` that names no labelled line ("`pc` never leaves the finite set of labelled lines",
  R26). Safe. -/
  | noSuchLine
  /-- Raised by WRITE_FRAME reading `FB` at or above 4736 ("an out-of-range `FB` address cannot arise and has no defined
  behaviour", R61). Safe. -/
  | fbAddress
  /-- Raised by LOAD_LUT reading a ROM at or above 30 ("No rule reads index 30 or above", R62). Safe. -/
  | romAddress
  deriving DecidableEq, Repr

/-- Refusals. Each is a situation the spec gives no meaning; all are safe (the run stops). -/
inductive Refusal
  /-- An instruction that has no meaning yet. Safe. -/
  | notModelled (mnemonic : String)
  /-- Raised by every host operation and reserved code issued while another operation runs (R40, U2). Safe. -/
  | overlappingIssue
  /-- Raised by a host write of an operand register while an operation runs (R40). Safe. -/
  | writeWhileActive
  /-- Raised by a host access to a register numbered 12 or above (R29, U13). Safe. -/
  | noSuchRegister (reg : Nat)
  /-- Raised by the packet port for bytes that are no packet of R94 (R99 (4)). Safe. -/
  | undecodable (e : DecodeError)
  deriving DecidableEq, Repr

/-! ## Block reset (R41, R270) -/

/-- The machine after block reset. Values R41 states: `life`, `pc`, `rs`, the flags, the result registers, the valid bits, the
latches, the ownership bits, the history, the configuration. DESIGN CHOICE (log entries 1, 3, 5, 6): every register R41 leaves
unspecified is zero; nothing is listed in `FB`; the image is empty; the environment's answers are free; nothing is pending.
DESIGN CHOICE (log entry 23): block reset does not touch the panel, whose own state is unknown until RESET_SEQ has run (R41, R272),
so it may be asleep and it may be refreshing; the ghost bits `asleep` and `refreshing` are set. -/
def State.reset : State where
  cfg := Config.default
  life := .unbound
  args := { argX0 := 0, argY0 := 0, argX1 := 0, argY1 := 0, argFill := 0#8, imgW := 0, imgH := 0 }
  cnt := { j := 0, i := 0, k := 0, a := 0, px := 0, py := 0, polls := 0 }
  tmp := { tByte := 0#8, tX0 := 0#16, tY0 := 0#16, tX1 := 0#16, tY1 := 0#16, tFill := 0#8 }
  shadow := { winXs := 0#8, winXe := 0#8, winYs := 0#16, winYe := 0#16, curX := 0#8, curY := 0#16, winValid := false,
              curValid := false }
  pc := { routine := .idle, step := 0 }
  rs := []
  flags := { active := false, busySample := false, fbValid := false, fault := false }
  res := { errCode := .ok, errOp := 0#4, errInfo := 0#8 }
  pins := { rst := .undriven, dc := .undriven, cs := .undriven, ownRst := false, ownDc := false, ownCs := false,
            ownBusy := false, ownSpi := false }
  fb := []
  hist := []
  panel := { ram := [], shown := [], left := [], sending := none, sent := 0, inWindow := false, cursorX := false,
             cursorFresh := false, asleep := true, refreshing := true }
  img := { rows := [] }
  env := { script := [], tail := .free }
  inbox := []

end Sys2Proof.Machine
end

