-- ==== Sys2Proof/Machine/Ops.lean ====
section
/-! DEFINITION. The shared operations: updates of the state, memory, pins, shim requests, calls, the end of an operation, and
`raise`, the one operation by which an error is taken (R248). -/

namespace Sys2Proof.Machine

/-! ## Updates of one field -/

def State.setLife (s : State) (v : Life) : State := { s with life := v }
def State.setArgs (s : State) (v : Operands) : State := { s with args := v }
def State.setCnt (s : State) (v : Counters) : State := { s with cnt := v }
def State.setTmp (s : State) (v : Params) : State := { s with tmp := v }
def State.setShadow (s : State) (v : Shadow) : State := { s with shadow := v }
def State.setPc (s : State) (v : PC) : State := { s with pc := v }
def State.setRs (s : State) (v : List PC) : State := { s with rs := v }
def State.setFlags (s : State) (v : Flags) : State := { s with flags := v }
def State.setRes (s : State) (v : Results) : State := { s with res := v }
def State.setPins (s : State) (v : Pins) : State := { s with pins := v }
def State.setFb (s : State) (v : Memory) : State := { s with fb := v }
def State.setHist (s : State) (v : List Event) : State := { s with hist := v }
def State.setPanel (s : State) (v : Panel) : State := { s with panel := v }
def State.setImg (s : State) (v : Image) : State := { s with img := v }
def State.setInbox (s : State) (v : List Pending) : State := { s with inbox := v }

/-! ## Memory -/

/-- The listed byte at an address. -/
def Memory.lookup (m : Memory) (a : Nat) : Option Byte :=
  match m with
  | [] => none
  | c :: cs => if c.1 = a then some c.2 else Memory.lookup cs a

/-- Remove the cell at an address. -/
def Memory.erase (m : Memory) (a : Nat) : Memory :=
  match m with
  | [] => []
  | c :: cs => if c.1 = a then cs else c :: Memory.erase cs a

/-- List a byte at an address, keeping the rising order. -/
def Memory.insert (m : Memory) (a : Nat) (b : Byte) : Memory :=
  match m with
  | [] => [(a, b)]
  | c :: cs => if a < c.1 then (a, b) :: c :: cs else if c.1 = a then (a, b) :: cs else c :: Memory.insert cs a b

/-- What an unlisted address of `FB` reads as. DESIGN CHOICE (log entry 3): `PACK_FILL`; it cannot be observed while
`fb_valid = 0` (U21), and a PACK writes every byte. -/
def fbDefault : Byte := Config.packFill

/-- `MemRead(FB, a, 1)` (R11). -/
def Memory.read (m : Memory) (a : Nat) : Byte := (m.lookup a).getD fbDefault

/-- `MemWrite(FB, a, 1, b)` (R11), keeping the canonical form. -/
def Memory.write (m : Memory) (a : Nat) (b : Byte) : Memory :=
  if b = fbDefault then m.erase a else m.insert a b

/-- Strictly rising addresses. -/
def Memory.rising : Memory → Bool
  | [] => true
  | [_] => true
  | c :: d :: cs => decide (c.1 < d.1) && Memory.rising (d :: cs)

/-- The canonical form of `FB`: strictly rising addresses, all below 4736 (R35), no entry equal to what an unlisted address reads
as. -/
def Memory.wf (m : Memory) : Bool :=
  m.rising && m.all (fun c => decide (c.1 < Config.fbBytes) && decide (c.2 ≠ fbDefault))

/-! ## Pins (R33) -/

/-- Drive an output latch. -/
def Pins.drive (p : Pins) (pin : OutPin) (l : Level) : Pins :=
  match pin with
  | .rst => { p with rst := .driven l }
  | .dc => { p with dc := .driven l }
  | .cs => { p with cs := .driven l }

/-- Set the ownership bit of a resource. -/
def Pins.acquire (p : Pins) (r : Resource) : Pins :=
  match r with
  | .rst => { p with ownRst := true }
  | .dc => { p with ownDc := true }
  | .cs => { p with ownCs := true }
  | .busy => { p with ownBusy := true }
  | .spi => { p with ownSpi := true }

/-- Clear the ownership bit of a resource; the latch of an output pin becomes `undriven`. -/
def Pins.release (p : Pins) (r : Resource) : Pins :=
  match r with
  | .rst => { p with ownRst := false, rst := .undriven }
  | .dc => { p with ownDc := false, dc := .undriven }
  | .cs => { p with ownCs := false, cs := .undriven }
  | .busy => { p with ownBusy := false }
  | .spi => { p with ownSpi := false }

/-! ## Shim requests (R11, R33, R90) -/

/-- The environment's answer to request number `n`. -/
def Env.answer (e : Env) (n : Nat) : Answer :=
  match e.script[n]? with
  | some a => a
  | none =>
    match e.tail with
    | .free => Config.freeAnswer n
    | .steady a => a

/-- Whether request number `n` is answered `fail`: only where `SHIM_CAN_FAIL` (R11). -/
def State.failsAt (s : State) (n : Nat) : Bool := (s.env.answer n).fails && s.cfg.shimCanFail

/-- The level of `BUSY` at request number `n` (R34). -/
def State.busyAt (s : State) (n : Nat) : Level := (s.env.answer n).busy

/-- Append one event to the history (R39). -/
def State.record (s : State) (r : Request) (a : Reply) : State := s.setHist (s.hist ++ [⟨r, a⟩])

/-- What a request answered `ok` does to the block's state: latches, ownership, `busy_sample` (R28, R33). -/
def requestEffect (r : Request) (l : Level) (s : State) : State :=
  match r with
  | .pinWrite p v => s.setPins (s.pins.drive p v)
  | .pinRead => s.setFlags { s.flags with busySample := l.toBool }
  | .spiWrite _ => s
  | .delay _ => s
  | .acquire x => s.setPins (s.pins.acquire x)
  | .release x => s.setPins (s.pins.release x)

/-- The reply the history records for a request answered `ok`. -/
def okReply (r : Request) (l : Level) : Reply :=
  match r with
  | .pinRead => .level l
  | .pinWrite _ _ | .spiWrite _ | .delay _ | .acquire _ | .release _ => .ok

/-- The outcome of a request: answered `ok`, or answered `fail`. -/
inductive Asked
  | ok (s : State)
  | failed (r : Request) (s : State)
  deriving DecidableEq, Repr

/-- Make one request (R11): the environment answers it and the event is appended. A failed request changes nothing else: "the
corresponding latch is *not* updated" (R243). -/
def ask (r : Request) (s : State) : Asked :=
  if s.failsAt s.hist.length then .failed r (s.record r .fail)
  else .ok ((requestEffect r (s.busyAt s.hist.length) s).record r (okReply r (s.busyAt s.hist.length)))

/-- Go on after a request only if it was answered `ok`. -/
def Asked.bind (x : Asked) (f : State → Asked) : Asked :=
  match x with
  | .ok s => f s
  | .failed r s => .failed r s

/-! ## The ghost panel (R71, R72; PRESUMED, log entry 17) -/

/-- Every byte of panel RAM unknown. -/
def Panel.forgetRam (p : Panel) : Panel := { p with ram := [], left := [], inWindow := false }

/-- The panel's condition unknown: RAM and glass (R21 code 7, R272, U9; log entry 8). -/
def Panel.forgetAll (p : Panel) : Panel := { p with ram := [], shown := [], inWindow := false }

/-- An error arose while requests were being made, when a WRITE_FRAME had sent `rows` rows: RAM and glass are unknown from now on
(R272); `left` records the rows that the WRITE_FRAME leaves in panel RAM (R182; log entry 8). -/
def Panel.failed (p : Panel) (rows : Nat) : Panel :=
  { p.forgetAll with left := p.ram.filter (fun c => decide (c.1 < 16 * rows)) }

/-- The panel was reset: no window, no cursor, awake, RAM unknown (R71, R72 (4), R151 S6); the glass keeps its picture. -/
def Panel.reset (p : Panel) : Panel :=
  { p with ram := [], left := [], inWindow := false, cursorX := false, cursorFresh := false, asleep := false,
           refreshing := false }

/-- R72 (1)'s conditions on window and cursor, for the first data byte; the panel must be awake and not refreshing. -/
def ramWindowOk (p : Panel) (w : Shadow) : Bool :=
  w.winValid && w.curValid && p.cursorFresh && !p.asleep && !p.refreshing && decide (w.winXs.toNat ≤ w.curX.toNat)
    && decide (w.winYs.toNat ≤ w.curY.toNat) && decide (w.curY.toNat ≤ w.winYe.toNat) && decide (w.winXe.toNat < 16)
    && decide (w.winYe.toNat < 296)

/-- A command frame reaches the panel: during a refresh it makes panel RAM unknown (U7), but for the terminate-frame command, which
TURN_ON_DISPLAY sends then (R180). -/
def Panel.meet (p : Panel) (k : PacketKind) : Panel :=
  if p.refreshing && decide (k ≠ .terminateFrameRw) then p.forgetRam else p

/-- A packet's command frame is begun. A write-RAM packet outside R72 (1)'s conditions makes panel RAM unknown (R72 (2)). A window
or counter packet makes the cursor stale until it is set anew. Master activation starts a refresh: the glass is unknown until
the refresh has ended; deep sleep: panel RAM is unknown (U11; log entry 9). -/
def Panel.enter (p : Panel) (k : PacketKind) (w : Shadow) : Panel :=
  match k with
  | .writeRam =>
    if ramWindowOk p w then
      { p with sending := some .writeRam, sent := 0, inWindow := true, cursorX := false, cursorFresh := false }
    else
      { p with ram := [], sending := some .writeRam, sent := 0, inWindow := false, cursorX := false, cursorFresh := false }
  | .setRamXStartEnd =>
    { p with sending := some .setRamXStartEnd, sent := 0, inWindow := false, cursorX := false, cursorFresh := false }
  | .setRamYStartEnd =>
    { p with sending := some .setRamYStartEnd, sent := 0, inWindow := false, cursorX := false, cursorFresh := false }
  | .setRamXCounter =>
    { p with sending := some .setRamXCounter, sent := 0, inWindow := false, cursorX := false, cursorFresh := false }
  | .setRamYCounter => { p with sending := some .setRamYCounter, sent := 0, inWindow := false, cursorFresh := false }
  | .masterActivation =>
    { p with shown := [], sending := some .masterActivation, sent := 0, inWindow := false, refreshing := true }
  | .deepSleepMode => { p with ram := [], sending := some .deepSleepMode, sent := 0, inWindow := false, asleep := true }
  | .driverOutputControl | .boosterSoftStart | .writeVcom | .setDummyLinePeriod | .setGateTime | .dataEntryMode | .writeLut
  | .displayUpdateControl2 | .terminateFrameRw => { p with sending := some k, sent := 0, inWindow := false }

/-- A packet's command frame is begun: what the panel's condition makes of it, then the packet's own effect. What an earlier
WRITE_FRAME left is no longer kept apart. -/
def Panel.begin (p : Panel) (k : PacketKind) (w : Shadow) : Panel := { (p.meet k).enter k w with left := [] }

/-- A data frame of the packet under way is complete. A write-RAM byte number `m` goes to `(cur_x + m, cur_y)` as long as R72 (1)
holds, and otherwise makes panel RAM unknown (R72 (2)). -/
def Panel.data (p : Panel) (w : Shadow) (b : Byte) : Panel :=
  if p.sending = some .writeRam then
    if p.inWindow && decide (w.curX.toNat + p.sent ≤ w.winXe.toNat) then
      { p with ram := p.ram.insert (16 * w.curY.toNat + (w.curX.toNat + p.sent)) b, sent := p.sent + 1 }
    else { p with ram := [], inWindow := false, sent := p.sent + 1 }
  else { p with sent := p.sent + 1 }

/-- Whether a window lies inside the panel and is not inverted (R174). -/
def windowOk (w : Shadow) : Bool :=
  decide (w.winXs.toNat ≤ w.winXe.toNat) && decide (w.winXe.toNat < 16) && decide (w.winYs.toNat ≤ w.winYe.toNat)
    && decide (w.winYe.toNat < 296)

/-- Whether a cursor lies inside the panel, and inside the window if there is one (R174, U5). DESIGN CHOICE (log entry 26): cursor
and window are compared when a cursor is sent, not when a window is. -/
def cursorOk (w : Shadow) : Bool :=
  decide (w.curX.toNat < 16) && decide (w.curY.toNat < 296)
    && (!w.winValid || (decide (w.winXs.toNat ≤ w.curX.toNat) && decide (w.curX.toNat ≤ w.winXe.toNat)
      && decide (w.winYs.toNat ≤ w.curY.toNat) && decide (w.curY.toNat ≤ w.winYe.toNat)))

/-- A window has been sent: outside the panel, or inverted, it makes panel RAM unknown (R173, U5). DESIGN CHOICE (log entry 26): this
happens when the last byte of the Y packet is complete, and a window that leaves the earlier cursor outside it changes nothing. -/
def Panel.windowSent (p : Panel) (w : Shadow) : Panel := if windowOk w then p else p.forgetRam

/-- The X counter has been sent. -/
def Panel.cursorXSent (p : Panel) : Panel := { p with cursorX := true }

/-- The Y counter has been sent: outside the panel or the window, the cursor makes panel RAM unknown (R173, U5). DESIGN CHOICE (log
entry 26): this happens when the last byte of the Y packet is complete. -/
def Panel.cursorSent (p : Panel) (w : Shadow) : Panel :=
  if cursorOk w then { p with cursorFresh := p.cursorX } else { p.forgetRam with cursorFresh := p.cursorX }

/-- Byte `(xb, y)` of panel RAM, none when unknown (R71). -/
def Panel.ramAt (p : Panel) (xb y : Nat) : Option Byte := p.ram.lookup (16 * y + xb)

/-- Byte `(xb, y)` of the rows a failed WRITE_FRAME left in panel RAM, none outside them (R182). -/
def Panel.leftAt (p : Panel) (xb y : Nat) : Option Byte := p.left.lookup (16 * y + xb)

/-- Byte `(xb, y)` of the glass, none when unknown (R71). -/
def Panel.shownAt (p : Panel) (xb y : Nat) : Option Byte := p.shown.lookup (16 * y + xb)

/-! ## Sequencer control (R26, R27) -/

/-- Go to the next line: "`step` increases by one" (R26). -/
def State.advance (s : State) : State := s.setPc ⟨s.pc.routine, s.pc.step + 1⟩

/-- `pc <- S n` within the running routine (R26). -/
def State.goto (s : State) (n : Nat) : State := s.setPc ⟨s.pc.routine, n⟩

/-- `call R`: push the `pc` of the line after the call and set `pc <- (R, 0)` (R27). -/
def State.call (s : State) (r : Routine) : State :=
  (s.setRs (⟨s.pc.routine, s.pc.step + 1⟩ :: s.rs)).setPc ⟨r, 0⟩

/-- Set the byte parameter `t_byte`. -/
def State.setByte (s : State) (b : Byte) : State := s.setTmp { s.tmp with tByte := b }

/-- `call SEND_COMMAND(b)` with `b` the command byte of packet kind `k`. -/
def State.callCommand (s : State) (k : PacketKind) : State :=
  ((s.setByte (commandByte s.cfg k)).setPanel (s.panel.begin k s.shadow)).call .sendCommand

/-- `call SEND_DATA(b)`. -/
def State.callData (s : State) (b : Byte) : State := (s.setByte b).call .sendData

/-- The end of a host operation without an error: `pc <- (IDLE, 0)`, `active <- 0`, result `Ok` (R27). -/
def State.finish (s : State) : State :=
  ((s.setPc ⟨.idle, 0⟩).setFlags { s.flags with active := false }).setRes { s.res with errCode := .ok }

/-- The host operation that is running: the outermost routine of the call chain (R27). -/
def runningRoutine (pc : PC) : List PC → Routine
  | [] => pc.routine
  | f :: fs => runningRoutine f fs

/-- The code of the host operation that is running, if one is. -/
def State.issuedCode (s : State) : Option (BitVec 4) :=
  match runningRoutine s.pc s.rs with
  | .op o => some o.code
  | .idle | .sendCommand | .sendData | .waitIdle | .resetSeq | .loadLut => none

/-! ## Taking an error (R248) -/

/-- The error code of a cause (R240). -/
def Cause.code : Cause → ErrCode
  | .resourceUnavailable => .resourceUnavailable
  | .transportFailure _ => .transportFailure
  | .unsupportedInput => .unsupportedInput
  | .hardwareNeverIdle => .hardwareNeverIdle
  | .invalidState => .invalidState
  | .illegalOperation => .illegalOperation

/-- `ERRINFO` bits [2:0]: the kind of the failed request (R31). -/
def requestKind : Request → BitVec 3
  | .pinWrite _ _ => 0#3
  | .pinRead => 1#3
  | .spiWrite _ => 2#3
  | .delay _ => 3#3
  | .acquire _ => 4#3
  | .release _ => 5#3

/-- The number of a resource (R31). -/
def resourceNumber : Resource → BitVec 3
  | .rst => 0#3
  | .dc => 1#3
  | .cs => 2#3
  | .busy => 3#3
  | .spi => 4#3

/-- `ERRINFO` bits [5:3]: the resource of the failed request (R31). -/
def requestResource : Request → BitVec 3
  | .pinWrite .rst _ => 0#3
  | .pinWrite .dc _ => 1#3
  | .pinWrite .cs _ => 2#3
  | .pinRead => 3#3
  | .spiWrite _ => 4#3
  | .delay _ => 7#3
  | .acquire r => resourceNumber r
  | .release r => resourceNumber r

/-- `ERRINFO` for a failed request: kind in [2:0], resource in [5:3], bits [7:6] zero (R31). -/
def errInfoOf (r : Request) : Byte := (0#2 ++ requestResource r ++ requestKind r).setWidth 8

/-- `life` after an error (R248's table). `code` is the host operation's code. -/
def lifeAfter (c : Cause) (code : Option (BitVec 4)) (l : Life) : Life :=
  match c with
  | .illegalOperation | .resourceUnavailable | .invalidState | .unsupportedInput => l
  | .transportFailure _ =>
    if code = some HostOp.attach.code ∨ code = some HostOp.teardown.code then .released else .faulted
  | .hardwareNeverIdle => .faulted

/-- How many rows a running WRITE_FRAME, host-issued or called by DISPLAY, has sent: none inside its SET_WINDOW (return address
S1), `j` after it (R181). 0 when none runs. -/
def rowsSent (s : State) : Nat :=
  match s.rs.find? (fun f => decide (f.routine = .op .writeFrame)) with
  | some f => if f.step ≤ 1 then 0 else s.cnt.j
  | none => 0

/-- The ghost panel after an error that came when a WRITE_FRAME had sent `rows` rows: RAM and glass are unknown (R272's last row).
After an error that arose at a request, `left` tells the rows sent (R182). DEDUCED (log entry 8): an IllegalOperation changes
nothing ("no other effect", U1). -/
def panelAfter (c : Cause) (rows : Nat) (p : Panel) : Panel :=
  match c with
  | .illegalOperation => p
  | .resourceUnavailable | .invalidState | .unsupportedInput => p.forgetAll
  | .transportFailure _ | .hardwareNeverIdle => p.failed rows

/-- The result registers after an error: `err_code`, `err_op` (the code of the host operation), and `ERRINFO` for a transport
failure only (R248). -/
def resultsAfter (c : Cause) (code : Option (BitVec 4)) (r : Results) : Results where
  errCode := c.code
  errOp := code.getD r.errOp
  errInfo := match c with
    | .transportFailure q => errInfoOf q
    | .resourceUnavailable | .unsupportedInput | .hardwareNeverIdle | .invalidState | .illegalOperation => r.errInfo

/-- `raise E`, one atomic step (R248): the result registers, `fault <- 1`, `pc <- (IDLE, 0)`, `rs <- empty`, `active <- 0`, and
`life`. "Nothing else changes" of the block; the ghost panel as `panelAfter` says. -/
def raise (c : Cause) (code : Option (BitVec 4)) (s : State) : State :=
  (((((s.setRes (resultsAfter c code s.res)).setFlags { s.flags with fault := true, active := false }).setPc
    ⟨.idle, 0⟩).setRs []).setLife (lifeAfter c code s.life)).setPanel (panelAfter c (rowsSent s) s.panel)

/-! ## What a line of the microprogram asks for -/

/-- What the line at `pc` does: make a request; go on silently; return; raise an error; stop the model. -/
inductive Act
  | ask (r : Request)
  | silent (s : State)
  | ret (s : State)
  | raise (c : Cause) (s : State)
  | stop (f : Fault)
  deriving DecidableEq, Repr

end Sys2Proof.Machine
end

