-- ==== Sys2Proof/Machine/Operands.lean ====
section
/-! DEFINITION. Operand forms: the field formulas (R12, R95), the sampling of operand registers (R23, R172), the host's writes of
registers and presentation of images (R29, R37, R40), and the fetch of the next pending act. -/

namespace Sys2Proof.Machine

/-! ## Field formulas (R10, R12, R95) -/

/-- `XB(x) = (x >> 3) & 0xFF`. -/
def xb (x : Word16) : Byte := (x >>> 3).setWidth 8

/-- `lo8(y) = y & 0xFF`. -/
def lo8 (y : Word16) : Byte := y.setWidth 8

/-- `hi8(y) = (y >> 8) & 0xFF`. -/
def hi8 (y : Word16) : Byte := (y >>> 8).setWidth 8

/-- The 16-bit word whose low byte is `lo` and high byte `hi` (R65). -/
def word16 (lo hi : Byte) : Word16 := hi ++ lo

/-- `HEIGHT - 1` as a word. -/
def heightMinus1 : Word16 := BitVec.ofNat 16 (Config.height - 1)

/-! ## Sampling at acceptance (R23, R172, R183, D32) -/

/-- The low 16 bits of an operand, which is what a `t_*` register holds (R24, R172). No byte the block sends depends on the bits
above (D4; DEDUCED, log entry 24). -/
def low16 (n : Nat) : Word16 := BitVec.ofNat 16 n

/-- The sequencer samples the operation's operand registers when it accepts it. PACK and DISPLAY use theirs in the same step. -/
def sample (op : HostOp) (s : State) : State :=
  match op with
  | .setWindow =>
    s.setTmp { s.tmp with tX0 := low16 s.args.argX0, tY0 := low16 s.args.argY0, tX1 := low16 s.args.argX1,
                          tY1 := low16 s.args.argY1 }
  | .setCursor => s.setTmp { s.tmp with tX0 := low16 s.args.argX0, tY0 := low16 s.args.argY0 }
  | .clear => s.setTmp { s.tmp with tFill := s.args.argFill }
  | .attach | .init | .turnOnDisplay | .writeFrame | .pack | .display | .powerDown | .teardown => s

/-! ## Host writes (R29, R40) -/

/-- What a host write of `v` leaves in an operand register: its low `ARGW` bits (R23; log entry 11). "Every read-write register
accepts every value of its width" (R29). -/
def operandValue (c : Config) (v : Nat) : Nat := v % 2 ^ c.argw

/-- A host write of a register other than `OP`. Operand registers take the value, cut to their width. DEDUCED (log entry
11): a write of a read-only register changes nothing. -/
def hostWrite (reg : Nat) (v : Nat) (s : State) : Host.Outcome State Fault Refusal :=
  if s.flags.active then .refused .writeWhileActive
  else match reg with
    | 1 | 2 | 3 | 11 => .next s
    | 4 => .next (s.setArgs { s.args with argX0 := operandValue s.cfg v })
    | 5 => .next (s.setArgs { s.args with argY0 := operandValue s.cfg v })
    | 6 => .next (s.setArgs { s.args with argX1 := operandValue s.cfg v })
    | 7 => .next (s.setArgs { s.args with argY1 := operandValue s.cfg v })
    | 8 => .next (s.setArgs { s.args with argFill := BitVec.ofNat 8 v })
    | 9 => .next (s.setArgs { s.args with imgW := operandValue s.cfg v })
    | 10 => .next (s.setArgs { s.args with imgH := operandValue s.cfg v })
    | n => .refused (.noSuchRegister n)

/-! ## Fetching (R40, R97) -/

/-- What the idle machine finds in its inbox. -/
inductive Fetched
  /-- Nothing is pending: the sequencer does nothing (R41). -/
  | nothing
  /-- An instruction, and the state with it taken from the inbox. -/
  | code (c : Code) (s : State)
  /-- A host write of a register other than `OP`. -/
  | write (reg : Nat) (v : Nat) (s : State)
  /-- An image presented. -/
  | image (img : Image) (s : State)
  deriving DecidableEq, Repr

/-- Take the oldest pending act. The operation word is bits [3:0] of what the host writes to `OP` (R97;
log entry 11). -/
def fetch (s : State) : Fetched :=
  match s.inbox with
  | [] => .nothing
  | .write 0 v :: rest => .code (.host (BitVec.ofNat 4 v)) (s.setInbox rest)
  | .write (n + 1) v :: rest => .write (n + 1) v (s.setInbox rest)
  | .image img :: rest => .image img (s.setInbox rest)
  | .packet bytes :: rest => .code (.packet bytes) (s.setInbox rest)

/-- The pending act that gives the machine a code. -/
def pendingOf : Code → Pending
  | .host op => .write 0 op.toNat
  | .packet bytes => .packet bytes

/-- Place a code where the next step fetches it: first in the inbox of an idle sequencer. -/
def placeCode (c : Code) (s : State) : State :=
  (((s.setInbox (pendingOf c :: s.inbox)).setPc ⟨.idle, 0⟩).setRs []).setFlags { s.flags with active := false }

/-! ## Host programs (R102) -/

/-- The host's acts for one program line: "write the named operands to their registers, write the code to `OP`" (R102). -/
def hostLineActs : HostLine → List Pending
  | .attach => [.write 0 0x0]
  | .init => [.write 0 0x1]
  | .setWindow x0 y0 x1 y1 => [.write 4 x0, .write 5 y0, .write 6 x1, .write 7 y1, .write 0 0x2]
  | .setCursor x y => [.write 4 x, .write 5 y, .write 0 0x3]
  | .turnOnDisplay => [.write 0 0x4]
  | .writeFrame => [.write 0 0x5]
  | .clear fill => [.write 8 fill.toNat, .write 0 0x6]
  | .pack w h img => [.write 9 w, .write 10 h, .image img, .write 0 0x7]
  | .display w h img => [.write 9 w, .write 10 h, .image img, .write 0 0x8]
  | .powerDown => [.write 0 0x9]
  | .teardown => [.write 0 0xA]

/-- The host's acts for a whole program, in order. -/
def programActs (p : List HostLine) : List Pending := p.flatMap hostLineActs

end Sys2Proof.Machine
end

