-- ==== Sys2Proof/Machine/Flags.lean ====
section
/-! DEFINITION. The host-visible registers made of flags and codes (R29 to R32), and the legality of each operation in each
lifecycle state (R22, R247). -/

namespace Sys2Proof.Machine

/-! ## Codes -/

/-- The 4-bit code of a lifecycle state (R21). -/
def Life.code : Life → BitVec 4
  | .unbound => 0#4
  | .uninitialized => 1#4
  | .reset => 2#4
  | .waveformLoaded => 3#4
  | .ready => 4#4
  | .busy => 5#4
  | .sleeping => 6#4
  | .faulted => 7#4
  | .released => 8#4

/-- The 3-bit code of a result (R31, R240). -/
def ErrCode.code : ErrCode → BitVec 3
  | .ok => 0#3
  | .resourceUnavailable => 1#3
  | .transportFailure => 2#3
  | .unsupportedInput => 3#3
  | .hardwareNeverIdle => 4#3
  | .invalidState => 5#3
  | .illegalOperation => 6#3

/-! ## Registers the host reads -/

/-- `STATUS`: `life` in [3:0], bit 4 `active`, bit 5 `fb_valid`, bit 6 `fault`, bit 7 `busy_sample` (R30). -/
def statusByte (s : State) : Byte :=
  (BitVec.ofBool s.flags.busySample ++ BitVec.ofBool s.flags.fault ++ BitVec.ofBool s.flags.fbValid
    ++ BitVec.ofBool s.flags.active ++ s.life.code).setWidth 8

/-- `ERR`: `err_code` in [2:0], `err_op` in [6:3], bit 7 reads 0 (R31). -/
def errByte (s : State) : Byte := (0#1 ++ s.res.errOp ++ s.res.errCode.code).setWidth 8

/-- `CFG`: bit 0 `LUT_SELECT`, bit 1 `PORTRAIT_CLEAR_ON_NONBLACK`, bit 2 whether there is a poll limit, the rest 0 (R32). -/
def cfgByte (c : Config) : Byte :=
  (0#5 ++ BitVec.ofBool c.busyTimeoutPolls.isSome ++ BitVec.ofBool c.portraitClearOnNonblack
    ++ BitVec.ofBool (c.lutSelect == .partialUpdate)).setWidth 8

/-- What the host reads from a register: "may read any host register at any time" (R40); `OP` reads 0 (R29). None for a register
that does not exist (U13). -/
def hostRead (reg : Nat) (s : State) : Option Nat :=
  match reg with
  | 0 => some 0
  | 1 => some (statusByte s).toNat
  | 2 => some (errByte s).toNat
  | 3 => some s.res.errInfo.toNat
  | 4 => some s.args.argX0
  | 5 => some s.args.argY0
  | 6 => some s.args.argX1
  | 7 => some s.args.argY1
  | 8 => some s.args.argFill.toNat
  | 9 => some s.args.imgW
  | 10 => some s.args.imgH
  | 11 => some (cfgByte s.cfg).toNat
  | _ => none

/-! ## Legality (R22, R247) -/

/-- Whether an operation is rejected in a lifecycle state, and with which error: R22's table. DEDUCED (log entry 10): the three
transient states, in which no operation can be issued, reject everything but PACK with `InvalidState`. -/
def verdict (op : HostOp) (l : Life) : Option Cause :=
  match op, l with
  | .pack, _ => none
  | _, .released => some .resourceUnavailable
  | .attach, .unbound => none
  | .attach, _ => some .invalidState
  | _, .unbound => some .resourceUnavailable
  | .init, .uninitialized => none
  | .init, .ready => none
  | .init, .sleeping => none
  | .init, .faulted => none
  | .init, _ => some .invalidState
  | .teardown, .uninitialized => none
  | .teardown, .sleeping => none
  | .teardown, .faulted => none
  | .teardown, _ => some .invalidState
  | .setWindow, .ready => none
  | .setCursor, .ready => none
  | .turnOnDisplay, .ready => none
  | .writeFrame, .ready => none
  | .clear, .ready => none
  | .display, .ready => none
  | .powerDown, .ready => none
  | .setWindow, _ => some .invalidState
  | .setCursor, _ => some .invalidState
  | .turnOnDisplay, _ => some .invalidState
  | .writeFrame, _ => some .invalidState
  | .clear, _ => some .invalidState
  | .display, _ => some .invalidState
  | .powerDown, _ => some .invalidState

/-- The acceptance check: `life` first; for WRITE_FRAME then `fb_valid` (R22, R247). -/
def acceptance (op : HostOp) (s : State) : Option Cause :=
  match verdict op s.life with
  | some c => some c
  | none => if op = .writeFrame ∧ s.flags.fbValid = false then some .invalidState else none

end Sys2Proof.Machine
end

