-- ==== Sys2Proof/Machine/Transport.lean ====
section
/-! DEFINITION. The transport and busy-wait routines: the lines of SEND_COMMAND, SEND_DATA, WAIT_IDLE (R132 to R135), and the
signal-level form of one SPI write (R138). -/

namespace Sys2Proof.Machine

/-- The lines of SEND_COMMAND (R132). -/
def sendCommandLine (n : Nat) (s : State) : Act :=
  match n with
  | 0 => .ask (.pinWrite .dc Config.dcCommand)
  | 1 => .ask (.pinWrite .cs Config.csAssert)
  | 2 => .ask (.spiWrite s.tmp.tByte)
  | 3 => .ask (.pinWrite .cs Config.csDeassert)
  | 4 => .ret s
  | _ => .stop .noSuchLine

/-- The lines of SEND_DATA (R133). -/
def sendDataLine (n : Nat) (s : State) : Act :=
  match n with
  | 0 => .ask (.pinWrite .dc Config.dcData)
  | 1 => .ask (.pinWrite .cs Config.csAssert)
  | 2 => .ask (.spiWrite s.tmp.tByte)
  | 3 => .ask (.pinWrite .cs Config.csDeassert)
  | 4 => .ret s
  | _ => .stop .noSuchLine

/-- Whether the hardened wait has used up its polls: `polls + 1 >= N` (R135). Never without a limit (R134); a
limit of 0, which is ill-formed, would act as 1 (log entry 15). -/
def pollsExhausted (s : State) : Bool :=
  match s.cfg.busyTimeoutPolls with
  | none => false
  | some n => decide (n ≤ s.cnt.polls + 1)

/-- The lines of WAIT_IDLE (R134; S3's test R135). S2 tests the sample S1 took. -/
def waitIdleLine (n : Nat) (s : State) : Act :=
  match n with
  | 0 => .silent (s.setCnt { s.cnt with polls := 0 }).advance
  | 1 => .ask .pinRead
  | 2 => if s.flags.busySample then .silent s.advance else .ret s
  | 3 => if pollsExhausted s then .raise .hardwareNeverIdle s else .ask (.delay Config.tPoll)
  | 4 => .silent (s.goto 1)
  | _ => .stop .noSuchLine

/-- WAIT_IDLE S3, after the delay: `polls <- polls + 1`. -/
def countPoll (s : State) : State := s.setCnt { s.cnt with polls := s.cnt.polls + 1 }

/-- SEND_DATA S3, the frame complete: the ghost panel receives the byte (R72). -/
def frameReceived (s : State) : State := s.setPanel (s.panel.data s.shadow s.tmp.tByte)

/-! ## Signal level (R138) -/

/-- The two wires of the SPI bus. -/
structure SpiWires where
  mosi : Level
  sclk : Level
  deriving DecidableEq, Repr

/-- The bits of a byte in the order they are shifted out: bit 7 first when `SPI_MSB_FIRST` (R138), else bit 0 first (PRESUMED, log
entry 18). -/
def spiBits (msbFirst : Bool) (b : Byte) : List Bool :=
  let up := (List.range 8).map (fun n => b.getLsbD n)
  if msbFirst then up.reverse else up

/-- The wire levels of one `SpiWrite`, in time order: per bit, drive `MOSI`, raise `SCLK`, lower `SCLK` (R138). -/
def spiWave (c : Config) (b : Byte) : List SpiWires :=
  (spiBits c.spiMsbFirst b).flatMap (fun x => [⟨.ofBool x, .low⟩, ⟨.ofBool x, .high⟩, ⟨.ofBool x, .low⟩])

/-- What the panel samples: `MOSI` at each rising edge of `SCLK`, whose idle level is `LOW` (R138). -/
def spiSamples (prev : Level) : List SpiWires → List Level
  | [] => []
  | w :: ws => if prev = .low ∧ w.sclk = .high then w.mosi :: spiSamples w.sclk ws else spiSamples w.sclk ws

end Sys2Proof.Machine
end

