-- ==== Sys2Proof/Machine/Init.lean ====
section
/-! DEFINITION. The lines of RESET_SEQ (R151), LOAD_LUT (R152) and INIT (R153). -/

namespace Sys2Proof.Machine

/-- RESET_SEQ S6: the panel has neither window nor cursor, and its RAM is unknown (R25, R71, R151). -/
def forgetWindow (s : State) : State :=
  (s.setShadow { s.shadow with winValid := false, curValid := false }).setPanel s.panel.reset

/-- The lines of RESET_SEQ (R151). -/
def resetSeqLine (n : Nat) (s : State) : Act :=
  match n with
  | 0 => .ask (.pinWrite .rst .high)
  | 1 => .ask (.delay Config.tRstHigh1)
  | 2 => .ask (.pinWrite .rst .low)
  | 3 => .ask (.delay Config.tRstLow)
  | 4 => .ask (.pinWrite .rst .high)
  | 5 => .ask (.delay Config.tRstHigh2)
  | 6 => .ret (forgetWindow s)
  | _ => .stop .noSuchLine

/-- The waveform table `LUT_SELECT` names (R152). -/
def selectedLut (c : Config) : Vector Byte Config.lutLen :=
  match c.lutSelect with
  | .full => c.lutFull
  | .partialUpdate => c.lutPartial

/-- The lines of LOAD_LUT (R152). -/
def loadLutLine (n : Nat) (s : State) : Act :=
  match n with
  | 0 => .silent (s.callCommand .writeLut)
  | 1 => .silent (s.setCnt { s.cnt with k := 0 }).advance
  | 2 => if s.cnt.k = Config.lutLen then .ret s else .silent s.advance
  | 3 =>
    match (selectedLut s.cfg)[s.cnt.k]? with
    | some b => .silent (s.callData b)
    | none => .stop .romAddress
  | 4 => .silent (s.goto 2)
  | _ => .stop .noSuchLine

/-- What LOAD_LUT does when the call at line `n` has returned: S3 `k <- k + 1`. -/
def loadLutAfter (n : Nat) (s : State) : State :=
  match n with
  | 3 => s.setCnt { s.cnt with k := s.cnt.k + 1 }
  | _ => s

/-- The lines of INIT (R153). -/
def initLine (n : Nat) (s : State) : Act :=
  match n with
  | 0 => .silent (s.call .resetSeq)
  | 1 => .silent (s.callCommand .driverOutputControl)
  | 2 => .silent (s.callData (lo8 heightMinus1))
  | 3 => .silent (s.callData (hi8 heightMinus1))
  | 4 => .silent (s.callData Config.scanFlags)
  | 5 => .silent (s.callCommand .boosterSoftStart)
  | 6 => .silent (s.callData s.cfg.booster0)
  | 7 => .silent (s.callData s.cfg.booster1)
  | 8 => .silent (s.callData s.cfg.booster2)
  | 9 => .silent (s.callCommand .writeVcom)
  | 10 => .silent (s.callData s.cfg.vcomValue)
  | 11 => .silent (s.callCommand .setDummyLinePeriod)
  | 12 => .silent (s.callData s.cfg.dummyLineValue)
  | 13 => .silent (s.callCommand .setGateTime)
  | 14 => .silent (s.callData s.cfg.gateTimeValue)
  | 15 => .silent (s.callCommand .dataEntryMode)
  | 16 => .silent (s.callData s.cfg.dataEntryValue)
  | 17 => .silent (s.call .loadLut)
  | 18 => .ret (s.setLife .ready)
  | _ => .stop .noSuchLine

/-- What INIT does when the call at line `n` has returned: S0 `life <- Reset`, S17 `life <- WaveformLoaded` (R153, D6). -/
def initAfter (n : Nat) (s : State) : State :=
  match n with
  | 0 => s.setLife .reset
  | 17 => s.setLife .waveformLoaded
  | _ => s

end Sys2Proof.Machine
end

