-- ==== Sys2Proof/Machine/Addressing.lean ====
section
/-! DEFINITION. The address window controller: the lines of SET_WINDOW (R170) and SET_CURSOR (R171). Both work from the `t_*`
registers (R172). -/

namespace Sys2Proof.Machine

/-- A window has been sent: the ghost panel's part (R72, R173). -/
def noteWindow (s : State) : State := s.setPanel (s.panel.windowSent s.shadow)

/-- The X counter has been sent: the ghost panel's part (R72). -/
def noteCursorX (s : State) : State := s.setPanel s.panel.cursorXSent

/-- The whole cursor has been sent: the ghost panel's part (R72, R173). -/
def noteCursor (s : State) : State := s.setPanel (s.panel.cursorSent s.shadow)

/-- The lines of SET_WINDOW (R170). -/
def setWindowLine (n : Nat) (s : State) : Act :=
  match n with
  | 0 => .silent (s.callCommand .setRamXStartEnd)
  | 1 => .silent (s.callData (xb s.tmp.tX0))
  | 2 => .silent (s.callData (xb s.tmp.tX1))
  | 3 => .silent (s.callCommand .setRamYStartEnd)
  | 4 => .silent (s.callData (lo8 s.tmp.tY0))
  | 5 => .silent (s.callData (hi8 s.tmp.tY0))
  | 6 => .silent (s.callData (lo8 s.tmp.tY1))
  | 7 => .silent (s.callData (hi8 s.tmp.tY1))
  | 8 => .ret s
  | _ => .stop .noSuchLine

/-- What SET_WINDOW does when the call at line `n` has returned: the shadow registers, each when its data frame is complete
(R25, R170); the ghost panel's part of R173 with the last byte (DESIGN CHOICE, log entry 26). -/
def setWindowAfter (n : Nat) (s : State) : State :=
  match n with
  | 1 => s.setShadow { s.shadow with winXs := xb s.tmp.tX0 }
  | 2 => s.setShadow { s.shadow with winXe := xb s.tmp.tX1 }
  | 5 => s.setShadow { s.shadow with winYs := s.tmp.tY0 }
  | 7 => noteWindow (s.setShadow { s.shadow with winYe := s.tmp.tY1, winValid := true })
  | _ => s

/-- The lines of SET_CURSOR (R171). -/
def setCursorLine (n : Nat) (s : State) : Act :=
  match n with
  | 0 => .silent (s.callCommand .setRamXCounter)
  | 1 => .silent (s.callData (xb s.tmp.tX0))
  | 2 => .silent (s.callCommand .setRamYCounter)
  | 3 => .silent (s.callData (lo8 s.tmp.tY0))
  | 4 => .silent (s.callData (hi8 s.tmp.tY0))
  | 5 => .silent (s.call .waitIdle)
  | 6 => .ret s
  | _ => .stop .noSuchLine

/-- What SET_CURSOR does when the call at line `n` has returned (R25, R171); the ghost panel's part of R173 with the last byte (DESIGN
CHOICE, log entry 26). -/
def setCursorAfter (n : Nat) (s : State) : State :=
  match n with
  | 1 => noteCursorX (s.setShadow { s.shadow with curX := xb s.tmp.tX0 })
  | 4 => noteCursor (s.setShadow { s.shadow with curY := s.tmp.tY0, curValid := true })
  | _ => s

end Sys2Proof.Machine
end

