-- ==== Sys2Proof/Machine/Packer.lean ====
section
/-! DEFINITION. The framebuffer packer (R215 to R224), taken as one atomic line, as R217 allows. -/

namespace Sys2Proof.Machine

/-- `MemRead(IMG, (x, y), 1)`: whether the pixel is "pure black" (R63). -/
def blackAt (img : Image) (x y : Nat) : Bool := ((img.rows[y]?).getD [])[x]?.getD false

/-- `0x80 >> (n mod 8)` (R12). -/
def pixelMask (n : Nat) : Byte := 0x80#8 >>> (n % 8)

/-- `CLEARBIT(addr, m)`: `MemWrite(FB, addr, 1, MemRead(FB, addr, 1) & ~m)` (R217). -/
def clearBit (fb : Memory) (addr : Nat) (m : Byte) : Memory := fb.write addr (fb.read addr &&& ~~~m)

/-- `FB` with every byte `PACK_FILL` (R217 S1 to S3, R218): nothing is listed, since an unlisted address reads as `PACK_FILL`. -/
def filledFb : Memory := []

/-- One pixel of the landscape path (R217 S9, R219). -/
def landscapePixel (img : Image) (y : Nat) (fb : Memory) (x : Nat) : Memory :=
  if blackAt img x y then clearBit fb ((x + y * Config.width) / 8) (pixelMask x) else fb

/-- One row of the landscape path (R217 S7 to S10). -/
def landscapeRow (img : Image) (fb : Memory) (y : Nat) : Memory :=
  (List.range Config.width).foldl (landscapePixel img y) fb

/-- The landscape path, (128, 296): no rotation (R217 S5 to S10, R219). -/
def packLandscape (img : Image) : Memory := (List.range Config.height).foldl (landscapeRow img) filledFb

/-- Whether a pixel of the portrait path clears its bit: non-black ones when `PORTRAIT_CLEAR_ON_NONBLACK`, black ones otherwise
(R217 S15, R221). -/
def portraitHit (flag : Bool) (black : Bool) : Bool := if flag then !black else black

/-- One pixel of the portrait path, rotated to `(y, HEIGHT - x - 1)` (R217 S15, R220). -/
def portraitPixel (flag : Bool) (img : Image) (y : Nat) (fb : Memory) (x : Nat) : Memory :=
  if portraitHit flag (blackAt img x y) then
    clearBit fb ((y + (Config.height - x - 1) * Config.width) / 8) (pixelMask y)
  else fb

/-- One row of the portrait path (R217 S13 to S16). -/
def portraitRow (flag : Bool) (img : Image) (fb : Memory) (y : Nat) : Memory :=
  (List.range Config.height).foldl (portraitPixel flag img y) fb

/-- The portrait path, (296, 128) (R217 S11 to S16, R220). -/
def packPortrait (flag : Bool) (img : Image) : Memory := (List.range Config.width).foldl (portraitRow flag img) filledFb

/-- The packed framebuffer of an image of the given dimensions, none for unsupported dimensions (R217 S4, R223). -/
def packImage (flag : Bool) (w h : Nat) (img : Image) : Option Memory :=
  if w = 128 ∧ h = 296 then some (packLandscape img)
  else if w = 296 ∧ h = 128 then some (packPortrait flag img)
  else none

/-- The loop counters when a successful PACK ends: each holds its loop's exit value (R24, R217). -/
def packedCounters (w : Nat) (c : Counters) : Counters :=
  if w = 128 then { c with a := Config.fbBytes, px := Config.width, py := Config.height }
  else { c with a := Config.fbBytes, px := Config.height, py := Config.width }

/-- The lines of PACK (R217), the whole routine as line 0: fill, check the dimensions, clear the bits, `fb_valid <- 1`. For
unsupported dimensions `FB` is left filled and `fb_valid = 0` (R223). -/
def packLine (n : Nat) (s : State) : Act :=
  match n with
  | 0 =>
    match packImage s.cfg.portraitClearOnNonblack s.args.imgW s.args.imgH s.img with
    | some fb =>
      .ret (((s.setFb fb).setFlags { s.flags with fbValid := true }).setCnt (packedCounters s.args.imgW s.cnt))
    | none =>
      .raise .unsupportedInput
        (((s.setFb filledFb).setFlags { s.flags with fbValid := false }).setCnt { s.cnt with a := Config.fbBytes })
  | _ => .stop .noSuchLine

end Sys2Proof.Machine
end

