-- ==== Sys2Proof/Machine/Refresh.lean ====
section
/-! DEFINITION. Refresh, frame write, clear, display: the lines of TURN_ON_DISPLAY (R180), of the frame loop shared by WRITE_FRAME
and CLEAR (R181 to R183), and of DISPLAY (R184). -/

namespace Sys2Proof.Machine

/-- The refresh is over: the glass shows panel RAM (R72 (3), R180 S5). -/
def showRam (s : State) : State := s.setPanel { s.panel with shown := s.panel.ram, refreshing := false }

/-- The lines of TURN_ON_DISPLAY (R180). -/
def turnOnDisplayLine (n : Nat) (s : State) : Act :=
  match n with
  | 0 => .silent (s.callCommand .displayUpdateControl2)
  | 1 => .silent (s.callData Config.duc2Value)
  | 2 => .silent (s.callCommand .masterActivation)
  | 3 => .silent (s.callCommand .terminateFrameRw)
  | 4 => .silent (s.call .waitIdle)
  | 5 => .ret (showRam (s.setLife .ready))
  | _ => .stop .noSuchLine

/-- What TURN_ON_DISPLAY does when the call at line `n` has returned: S2 `life <- Busy` (R180, D6). -/
def turnOnDisplayAfter (n : Nat) (s : State) : State :=
  match n with
  | 2 => s.setLife .busy
  | _ => s

/-- The byte source of WRITE_FRAME: `MemRead(FB, 16*j + i, 1)` (R182); none outside `FB`. -/
def frameByte (s : State) : Option Byte :=
  if Config.rowBytes * s.cnt.j + s.cnt.i < Config.fbBytes then some (s.fb.read (Config.rowBytes * s.cnt.j + s.cnt.i))
  else none

/-- The byte source of CLEAR: the color sampled at acceptance (R183). -/
def clearByte (s : State) : Option Byte := some s.tmp.tFill

/-- The lines of the frame loop (R181), with the byte `src` of row `j`, column `i`. -/
def frameLoopLine (src : Option Byte) (n : Nat) (s : State) : Act :=
  match n with
  | 0 =>
    .silent ((s.setTmp { s.tmp with tX0 := 0#16, tY0 := 0#16, tX1 := BitVec.ofNat 16 (Config.width - 1),
                                    tY1 := heightMinus1 }).call (.op .setWindow))
  | 1 => .silent (s.setCnt { s.cnt with j := 0 }).advance
  | 2 => if s.cnt.j = Config.height then .silent (s.goto 9) else .silent s.advance
  | 3 => .silent ((s.setTmp { s.tmp with tX0 := 0#16, tY0 := BitVec.ofNat 16 s.cnt.j }).call (.op .setCursor))
  | 4 => .silent (s.callCommand .writeRam)
  | 5 => if s.cnt.i = Config.rowBytes then .silent (s.goto 8) else .silent s.advance
  | 6 =>
    match src with
    | some b => .silent (s.callData b)
    | none => .stop .fbAddress
  | 7 => .silent (s.goto 5)
  | 8 => .silent ((s.setCnt { s.cnt with j := s.cnt.j + 1 }).goto 2)
  | 9 => .silent (s.call (.op .turnOnDisplay))
  | 10 => .ret s
  | _ => .stop .noSuchLine

/-- What the frame loop does when the call at line `n` has returned: S4 `i <- 0`, S6 `i <- i + 1` (R181). -/
def frameLoopAfter (n : Nat) (s : State) : State :=
  match n with
  | 4 => s.setCnt { s.cnt with i := 0 }
  | 6 => s.setCnt { s.cnt with i := s.cnt.i + 1 }
  | _ => s

/-- The lines of WRITE_FRAME (R182). -/
def writeFrameLine (n : Nat) (s : State) : Act := frameLoopLine (frameByte s) n s

/-- The lines of CLEAR (R183). -/
def clearLine (n : Nat) (s : State) : Act := frameLoopLine (clearByte s) n s

/-- The lines of DISPLAY (R184). -/
def displayLine (n : Nat) (s : State) : Act :=
  match n with
  | 0 => .silent (s.call (.op .pack))
  | 1 => .silent (s.call (.op .writeFrame))
  | 2 => .ret s
  | _ => .stop .noSuchLine

end Sys2Proof.Machine
end

