-- ==== Sys2Proof/Machine/Power.lean ====
section
/-! DEFINITION. Attach, power-down, teardown: the lines of ATTACH (R200), POWER_DOWN (R201), TEARDOWN (R202). -/

namespace Sys2Proof.Machine

/-- The lines of ATTACH (R200). -/
def attachLine (n : Nat) (s : State) : Act :=
  match n with
  | 0 => .ask (.acquire .rst)
  | 1 => .ask (.acquire .dc)
  | 2 => .ask (.acquire .cs)
  | 3 => .ask (.acquire .busy)
  | 4 => .ask (.acquire .spi)
  | 5 => .ret (s.setLife .uninitialized)
  | _ => .stop .noSuchLine

/-- The lines of POWER_DOWN (R201). -/
def powerDownLine (n : Nat) (s : State) : Act :=
  match n with
  | 0 => .silent (s.callCommand .deepSleepMode)
  | 1 => .silent (s.callData Config.deepSleepValue)
  | 2 => .ask (.delay Config.tSettle)
  | 3 => .ret (s.setLife .sleeping)
  | _ => .stop .noSuchLine

/-- TEARDOWN S0, answered: the panel is held in reset (R202). DESIGN CHOICE (log entry 22): neither R272 nor N12 says what its RAM
then holds, so it is unknown; the glass keeps its picture, as in RESET_SEQ (R72 (4)). -/
def heldInReset (s : State) : State := s.setPanel s.panel.forgetRam

/-- The lines of TEARDOWN (R202). -/
def teardownLine (n : Nat) (s : State) : Act :=
  match n with
  | 0 => .ask (.pinWrite .rst .low)
  | 1 => .ask (.pinWrite .dc .low)
  | 2 => .ask (.release .rst)
  | 3 => .ask (.release .dc)
  | 4 => .ask (.release .cs)
  | 5 => .ask (.release .busy)
  | 6 => .ask (.release .spi)
  | 7 => .ret (s.setLife .released)
  | _ => .stop .noSuchLine

end Sys2Proof.Machine
end

