-- ==== Sys2Proof/Machine/Sequencer.lean ====
section
/-! DEFINITION. The sequencer: which line stands at `pc`, what a request's `ok` and a call's return do, one step of a running
operation, and the issue of a host operation (R22, R26, R27, R40, R130, R247). -/

namespace Sys2Proof.Machine

/-- What the line at `pc` does (R26). -/
def line (s : State) : Act :=
  match s.pc.routine with
  | .idle => .stop .noSuchLine
  | .op .attach => attachLine s.pc.step s
  | .op .init => initLine s.pc.step s
  | .op .setWindow => setWindowLine s.pc.step s
  | .op .setCursor => setCursorLine s.pc.step s
  | .op .turnOnDisplay => turnOnDisplayLine s.pc.step s
  | .op .writeFrame => writeFrameLine s.pc.step s
  | .op .clear => clearLine s.pc.step s
  | .op .pack => packLine s.pc.step s
  | .op .display => displayLine s.pc.step s
  | .op .powerDown => powerDownLine s.pc.step s
  | .op .teardown => teardownLine s.pc.step s
  | .sendCommand => sendCommandLine s.pc.step s
  | .sendData => sendDataLine s.pc.step s
  | .waitIdle => waitIdleLine s.pc.step s
  | .resetSeq => resetSeqLine s.pc.step s
  | .loadLut => loadLutLine s.pc.step s

/-- What a routine does when the call at its line `n` has returned: the rest of that line (R25, R27, D6). -/
def afterCall (r : Routine) (n : Nat) (s : State) : State :=
  match r with
  | .op .init => initAfter n s
  | .op .setWindow => setWindowAfter n s
  | .op .setCursor => setCursorAfter n s
  | .op .turnOnDisplay => turnOnDisplayAfter n s
  | .op .writeFrame => frameLoopAfter n s
  | .op .clear => frameLoopAfter n s
  | .loadLut => loadLutAfter n s
  | .op .attach | .op .pack | .op .display | .op .powerDown | .op .teardown | .idle | .sendCommand | .sendData | .waitIdle
  | .resetSeq => s

/-- `return` to a caller: pop the return address `f` (leaving `fs`) and do the rest of the call's line (R27). -/
def returnTo (f : PC) (fs : List PC) (s : State) : State := afterCall f.routine (f.step - 1) ((s.setRs fs).setPc f)

/-- The rest of a request line, once the request is answered `ok`; then the next line (R26). -/
def answered (s : State) : State :=
  match s.pc.routine, s.pc.step with
  | .sendData, 3 => (frameReceived s).advance
  | .waitIdle, 3 => (countPoll s).advance
  | .op .teardown, 0 => (heldInReset s).advance
  | _, _ => s.advance

/-- How many silent lines one step may perform; no chain of the microprogram is longer (log entry 4). -/
def settleFuel : Nat := 16

/-- Perform silent lines until the next request is to be made, or the operation has ended (R130). A `return` with an empty return
stack ends the host operation with `Ok` (R27). -/
def settle : Nat → State → Host.Outcome State Fault Refusal
  | 0, s => .next s
  | n + 1, s =>
    match line s with
    | .ask _ => .next s
    | .silent s' => settle n s'
    | .ret s' =>
      match s'.rs with
      | [] => .next s'.finish
      | f :: fs => settle n (returnTo f fs s')
    | .raise c s' => .next (raise c s'.issuedCode s')
    | .stop f => .fault f

/-- One step of a running operation: the outstanding request is answered, and the sequencer goes on to the next one (R11, R73,
R130). A `fail` answer raises `TransportFailure` (R243). -/
def sequencerStep (s : State) : Host.Outcome State Fault Refusal :=
  match line s with
  | .ask r =>
    match ask r s with
    | .ok s' => settle settleFuel (answered s')
    | .failed q s' => .next (raise (.transportFailure q) s'.issuedCode s')
  | .silent _ | .ret _ | .raise _ _ | .stop _ => settle settleFuel s

/-- Start an accepted operation: sample its operands, `active <- 1`, `pc <- (op, 0)`, return stack empty (R23, R28, R42). -/
def accept (op : HostOp) (s : State) : State :=
  (((sample op s).setFlags { s.flags with active := true }).setPc ⟨.op op, 0⟩).setRs []

/-- Issue a host operation (R22, R40, R247): refused while another runs (U2); rejected by the acceptance check; else started, up to
its first request, or to its end when it makes none (PACK). -/
def issue (op : HostOp) (s : State) : Host.Outcome State Fault Refusal :=
  if s.flags.active then .refused .overlappingIssue
  else match acceptance op s with
    | some c => .next (raise c (some op.code) s)
    | none => settle settleFuel (accept op s)

/-- Issue a reserved host code: `IllegalOperation`, "no other effect" (R99, R246). -/
def issueReserved (code : BitVec 4) (s : State) : Host.Outcome State Fault Refusal :=
  if s.flags.active then .refused .overlappingIssue
  else .next (raise .illegalOperation (some code) s)

end Sys2Proof.Machine
end

