-- ==== Sys2Proof/Machine/HostOps.lean ====
section
/-! DEFINITION. The meanings of the eleven host operations (R22, R97) and the five reserved host codes (R99). -/

namespace Sys2Proof.Machine

/-- ATTACH (R200). -/
def execAttach (s : State) : Host.Outcome State Fault Refusal := issue .attach s

/-- INIT (R153). -/
def execInit (s : State) : Host.Outcome State Fault Refusal := issue .init s

/-- SET_WINDOW (R170). -/
def execSetWindow (s : State) : Host.Outcome State Fault Refusal := issue .setWindow s

/-- SET_CURSOR (R171). -/
def execSetCursor (s : State) : Host.Outcome State Fault Refusal := issue .setCursor s

/-- TURN_ON_DISPLAY (R180). -/
def execTurnOnDisplay (s : State) : Host.Outcome State Fault Refusal := issue .turnOnDisplay s

/-- WRITE_FRAME (R182). -/
def execWriteFrame (s : State) : Host.Outcome State Fault Refusal := issue .writeFrame s

/-- CLEAR (R183). -/
def execClear (s : State) : Host.Outcome State Fault Refusal := issue .clear s

/-- PACK (R217). -/
def execPack (s : State) : Host.Outcome State Fault Refusal := issue .pack s

/-- DISPLAY (R184). -/
def execDisplay (s : State) : Host.Outcome State Fault Refusal := issue .display s

/-- POWER_DOWN (R201). -/
def execPowerDown (s : State) : Host.Outcome State Fault Refusal := issue .powerDown s

/-- TEARDOWN (R202). -/
def execTeardown (s : State) : Host.Outcome State Fault Refusal := issue .teardown s

/-- Reserved code 0xB (R99, R246). -/
def execReservedB (s : State) : Host.Outcome State Fault Refusal := issueReserved 0xB#4 s

/-- Reserved code 0xC (R99, R246). -/
def execReservedC (s : State) : Host.Outcome State Fault Refusal := issueReserved 0xC#4 s

/-- Reserved code 0xD (R99, R246). -/
def execReservedD (s : State) : Host.Outcome State Fault Refusal := issueReserved 0xD#4 s

/-- Reserved code 0xE (R99, R246). -/
def execReservedE (s : State) : Host.Outcome State Fault Refusal := issueReserved 0xE#4 s

/-- Reserved code 0xF (R99, R246). -/
def execReservedF (s : State) : Host.Outcome State Fault Refusal := issueReserved 0xF#4 s

end Sys2Proof.Machine
end

