-- ==== Sys2Proof/Machine/Packets.lean ====
section
/-! DEFINITION. The meanings of the sixteen panel packets (R93, R94): the block transmits the packet, one command frame and then
its data frames, each of four requests (R92). A packet is one step of the model; the sequencer sends the same frames one request
at a time (log entry 12). -/

namespace Sys2Proof.Machine

/-- One frame: `DC`, `CS` low, the byte, `CS` high (R92). -/
def sendFrame (dc : Level) (b : Byte) (s : State) : Asked :=
  (((ask (.pinWrite .dc dc) (s.setByte b)).bind (ask (.pinWrite .cs Config.csAssert))).bind (ask (.spiWrite b))).bind
    (ask (.pinWrite .cs Config.csDeassert))

/-- The shadow registers once the data bytes `sent` of a packet are complete (R25, R170, R171). The valid bits are set by SET_WINDOW
and SET_CURSOR only (R25). The ghost panel's part of R173 comes with the last byte of the Y packet (DESIGN CHOICE, log entry 26). -/
def recordShadow (k : PacketKind) (sent : List Byte) (s : State) : State :=
  match k, sent with
  | .setRamXStartEnd, [a] => s.setShadow { s.shadow with winXs := a }
  | .setRamXStartEnd, [_, b] => s.setShadow { s.shadow with winXe := b }
  | .setRamYStartEnd, [a, b] => s.setShadow { s.shadow with winYs := word16 a b }
  | .setRamYStartEnd, [_, _, a, b] => noteWindow (s.setShadow { s.shadow with winYe := word16 a b })
  | .setRamXCounter, [a] => noteCursorX (s.setShadow { s.shadow with curX := a })
  | .setRamYCounter, [a, b] => noteCursor (s.setShadow { s.shadow with curY := word16 a b })
  | _, _ => s

/-- The data frames of a packet, in order; `sent` are the data bytes already sent. -/
def sendDataFrames (k : PacketKind) (sent : List Byte) : List Byte → State → Asked
  | [], s => .ok s
  | b :: bs, s =>
    (sendFrame Config.dcData b s).bind
      (fun t => sendDataFrames k (sent ++ [b]) bs (recordShadow k (sent ++ [b]) (frameReceived t)))

/-- A whole packet: the command frame with the configured command byte, then the data frames (R93, R94). -/
def sendPacket (k : PacketKind) (data : List Byte) (s : State) : Asked :=
  (sendFrame Config.dcCommand (commandByte s.cfg k) (s.setPanel (s.panel.begin k s.shadow))).bind (sendDataFrames k [] data)

/-- The state after a transmission: a `fail` answer raises `TransportFailure` at that request (R131, R243). -/
def transmitted : Asked → State
  | .ok t => t
  | .failed q t => raise (.transportFailure q) t.issuedCode t

/-- Transmit a packet. It always ends in a next state, whatever the answers. -/
def transmit (k : PacketKind) (data : List Byte) (s : State) : Host.Outcome State Fault Refusal :=
  .next (transmitted (sendPacket k data s))

/-- Packet 1, driver output control (R94, R153 step 2). -/
def execPktDriverOutputControl (d0 d1 d2 : Byte) (s : State) : Host.Outcome State Fault Refusal :=
  transmit .driverOutputControl [d0, d1, d2] s

/-- Packet 2, booster soft-start control (R94, R153 step 3). -/
def execPktBoosterSoftStart (d0 d1 d2 : Byte) (s : State) : Host.Outcome State Fault Refusal :=
  transmit .boosterSoftStart [d0, d1, d2] s

/-- Packet 3, write VCOM register (R94, R153 step 4). -/
def execPktWriteVcom (d0 : Byte) (s : State) : Host.Outcome State Fault Refusal := transmit .writeVcom [d0] s

/-- Packet 4, set dummy line period (R94, R153 step 5). -/
def execPktSetDummyLinePeriod (d0 : Byte) (s : State) : Host.Outcome State Fault Refusal := transmit .setDummyLinePeriod [d0] s

/-- Packet 5, set gate time (R94, R153 step 5). -/
def execPktSetGateTime (d0 : Byte) (s : State) : Host.Outcome State Fault Refusal := transmit .setGateTime [d0] s

/-- Packet 6, data entry mode (R94, R153 step 6). -/
def execPktDataEntryMode (d0 : Byte) (s : State) : Host.Outcome State Fault Refusal := transmit .dataEntryMode [d0] s

/-- Packet 7, write LUT register (R94, R152). -/
def execPktWriteLut (data : List Byte) (s : State) : Host.Outcome State Fault Refusal := transmit .writeLut data s

/-- Packet 8, set RAM X address start/end (R94, R170). -/
def execPktSetRamXStartEnd (d0 d1 : Byte) (s : State) : Host.Outcome State Fault Refusal := transmit .setRamXStartEnd [d0, d1] s

/-- Packet 9, set RAM Y address start/end (R94, R170). -/
def execPktSetRamYStartEnd (d0 d1 d2 d3 : Byte) (s : State) : Host.Outcome State Fault Refusal :=
  transmit .setRamYStartEnd [d0, d1, d2, d3] s

/-- Packet 10, set RAM X address counter (R94, R171). -/
def execPktSetRamXCounter (d0 : Byte) (s : State) : Host.Outcome State Fault Refusal := transmit .setRamXCounter [d0] s

/-- Packet 11, set RAM Y address counter (R94, R171). -/
def execPktSetRamYCounter (d0 d1 : Byte) (s : State) : Host.Outcome State Fault Refusal := transmit .setRamYCounter [d0, d1] s

/-- Packet 12, display update control 2 (R94, R180). -/
def execPktDisplayUpdateControl2 (d0 : Byte) (s : State) : Host.Outcome State Fault Refusal :=
  transmit .displayUpdateControl2 [d0] s

/-- Packet 13, master activation (R94, R180). -/
def execPktMasterActivation (s : State) : Host.Outcome State Fault Refusal := transmit .masterActivation [] s

/-- Packet 14, terminate frame read/write (R94, R180). -/
def execPktTerminateFrameRw (s : State) : Host.Outcome State Fault Refusal := transmit .terminateFrameRw [] s

/-- Packet 15, write RAM (R94, R181); its effect on the ghost panel RAM is R72 (1), (2). -/
def execPktWriteRam (data : List Byte) (s : State) : Host.Outcome State Fault Refusal := transmit .writeRam data s

/-- Packet 16, deep sleep mode (R94, R201). -/
def execPktDeepSleepMode (d0 : Byte) (s : State) : Host.Outcome State Fault Refusal := transmit .deepSleepMode [d0] s

end Sys2Proof.Machine
end

