-- ==== Sys2Proof/Machine/Dispatch.lean ====
section
/-! DEFINITION. exec: one arm per constructor of Instr. -/

namespace Sys2Proof.Machine

def exec (i : Instr) (s : State) : Host.Outcome State Fault Refusal :=
  match i with
  | .attach => Sys2Proof.Machine.execAttach s
  | .init => Sys2Proof.Machine.execInit s
  | .setWindow => Sys2Proof.Machine.execSetWindow s
  | .setCursor => Sys2Proof.Machine.execSetCursor s
  | .turnOnDisplay => Sys2Proof.Machine.execTurnOnDisplay s
  | .writeFrame => Sys2Proof.Machine.execWriteFrame s
  | .clear => Sys2Proof.Machine.execClear s
  | .pack => Sys2Proof.Machine.execPack s
  | .display => Sys2Proof.Machine.execDisplay s
  | .powerDown => Sys2Proof.Machine.execPowerDown s
  | .teardown => Sys2Proof.Machine.execTeardown s
  | .reservedB => Sys2Proof.Machine.execReservedB s
  | .reservedC => Sys2Proof.Machine.execReservedC s
  | .reservedD => Sys2Proof.Machine.execReservedD s
  | .reservedE => Sys2Proof.Machine.execReservedE s
  | .reservedF => Sys2Proof.Machine.execReservedF s
  | .pktDriverOutputControl d0 d1 d2 => Sys2Proof.Machine.execPktDriverOutputControl d0 d1 d2 s
  | .pktBoosterSoftStart d0 d1 d2 => Sys2Proof.Machine.execPktBoosterSoftStart d0 d1 d2 s
  | .pktWriteVcom d0 => Sys2Proof.Machine.execPktWriteVcom d0 s
  | .pktSetDummyLinePeriod d0 => Sys2Proof.Machine.execPktSetDummyLinePeriod d0 s
  | .pktSetGateTime d0 => Sys2Proof.Machine.execPktSetGateTime d0 s
  | .pktDataEntryMode d0 => Sys2Proof.Machine.execPktDataEntryMode d0 s
  | .pktWriteLut data => Sys2Proof.Machine.execPktWriteLut data s
  | .pktSetRamXStartEnd d0 d1 => Sys2Proof.Machine.execPktSetRamXStartEnd d0 d1 s
  | .pktSetRamYStartEnd d0 d1 d2 d3 => Sys2Proof.Machine.execPktSetRamYStartEnd d0 d1 d2 d3 s
  | .pktSetRamXCounter d0 => Sys2Proof.Machine.execPktSetRamXCounter d0 s
  | .pktSetRamYCounter d0 d1 => Sys2Proof.Machine.execPktSetRamYCounter d0 d1 s
  | .pktDisplayUpdateControl2 d0 => Sys2Proof.Machine.execPktDisplayUpdateControl2 d0 s
  | .pktMasterActivation => Sys2Proof.Machine.execPktMasterActivation s
  | .pktTerminateFrameRw => Sys2Proof.Machine.execPktTerminateFrameRw s
  | .pktWriteRam data => Sys2Proof.Machine.execPktWriteRam data s
  | .pktDeepSleepMode d0 => Sys2Proof.Machine.execPktDeepSleepMode d0 s

end Sys2Proof.Machine
end

