-- ==== Sys2Proof/Machine/Step.lean ====
section
/-! DEFINITION. One step of the machine (R13, R40, R130), and where an instruction is placed so that the next step runs it. -/

namespace Sys2Proof.Machine

/-- One step. While an operation runs, the sequencer goes from one shim request to the next. While it is idle, the oldest pending act
of the host is taken: an operation word (or a packet) is decoded and executed, a register written, an image presented; with
nothing pending, nothing happens (R41). -/
def step (s : State) : Host.Outcome State Fault Refusal :=
  if s.flags.active then sequencerStep s
  else match fetch s with
    | .nothing => .next s
    | .write reg v t => hostWrite reg v t
    | .image img t => .next (t.setImg img)
    | .code c t =>
      match decode t.cfg c with
      | .ok i => exec i t
      | .error e => .refused (.undecodable e)

/-- The state with a table word stored where the next step fetches its instruction: in the host's inbox, the sequencer idle (log
entry 13). -/
def State.withFetchWord (s : State) (nbits w : Nat) : State := placeCode (tableCode s.cfg nbits w) s

end Sys2Proof.Machine
end

