-- ==== Sys2Proof/Safety.lean ====
section
/-! DEFINITION. What claims are stated with: runs, answers of the environment, the events of frames and packets, the invariant of
the machine (R21, R24, R26, R27, R35), and the shape of the history (R92, R137). -/

namespace Sys2Proof.Safety

open Sys2Proof.Machine

/-! ## Runs and environments -/

/-- `n` steps of the machine. -/
def run (n : Nat) (s : State) : Host.Outcome State Fault Refusal := Host.Core.run Sys2Proof.core n s

/-- None of the next `n` requests is answered `fail` (R11). -/
def Quiet (s : State) (n : Nat) : Prop := ∀ m, m < n → s.failsAt (s.hist.length + m) = false

/-- At each of the next `n` requests `BUSY` is at `LOW` (R34). -/
def IdlePanel (s : State) (n : Nat) : Prop := ∀ m, m < n → s.busyAt (s.hist.length + m) = .low

/-- A busy wait that begins after `n` more requests meets `m` busy polls and then an idle one (R134): polls are every second
request. -/
def BusyFor (s : State) (n m : Nat) : Prop :=
  (∀ q, q < m → s.busyAt (s.hist.length + n + 2 * q) = .high) ∧ s.busyAt (s.hist.length + n + 2 * m) = .low

/-- A wait that meets `m` busy polls is within the poll limit, if there is one (R134, R135). -/
def WithinPolls (c : Config) (m : Nat) : Prop := ∀ n, c.busyTimeoutPolls = some n → m < n

/-- The sequencer is idle (R26, R27, R28). -/
def Idle (s : State) : Prop := s.flags.active = false ∧ s.pc = ⟨.idle, 0⟩ ∧ s.rs = []

/-- The parts of a state that no operation changes: configuration, operand registers, inputs (R23, R32, R37). -/
def SameInputs (s t : State) : Prop :=
  t.cfg = s.cfg ∧ t.args = s.args ∧ t.img = s.img ∧ t.env = s.env ∧ t.inbox = s.inbox

/-- `t` is the end, with result `Ok`, of an operation issued in `s`: idle, `err_code` = 0 with `err_op` and `ERRINFO` kept, `fault`
kept, inputs kept (R27, R31). -/
def EndsOk (s t : State) : Prop :=
  Idle t ∧ t.res = { s.res with errCode := .ok } ∧ t.flags.fault = s.flags.fault ∧ SameInputs s t

/-! ## Events -/

/-- The four events of a frame (R92). -/
def frameEvents (f : Frame) : List Event :=
  [⟨.pinWrite .dc f.dc, .ok⟩, ⟨.pinWrite .cs .low, .ok⟩, ⟨.spiWrite f.byte, .ok⟩, ⟨.pinWrite .cs .high, .ok⟩]

/-- The frames of a packet: a command frame, then data frames (R93). -/
def packetFrames (cmd : Byte) (data : List Byte) : List Frame := ⟨.low, cmd⟩ :: data.map (fun b => ⟨.high, b⟩)

/-- The events of a packet (R92, R93). -/
def packetEvents (cmd : Byte) (data : List Byte) : List Event := (packetFrames cmd data).flatMap frameEvents

/-- The events of a busy wait that meets `m` busy polls: `(BUSY?1 DLY:200)*m BUSY?0` (R134). -/
def waitEvents : Nat → List Event
  | 0 => [⟨.pinRead, .level .low⟩]
  | m + 1 => ⟨.pinRead, .level .high⟩ :: ⟨.delay 200, .ok⟩ :: waitEvents m

/-- The events of the reset pulse train (R151). -/
def resetEvents : List Event :=
  [⟨.pinWrite .rst .high, .ok⟩, ⟨.delay 200, .ok⟩, ⟨.pinWrite .rst .low, .ok⟩, ⟨.delay 5, .ok⟩, ⟨.pinWrite .rst .high, .ok⟩,
    ⟨.delay 200, .ok⟩]

/-- The events of a SET_WINDOW (R170). -/
def windowEvents (c : Config) (x0 y0 x1 y1 : Word16) : List Event :=
  packetEvents c.opSetRamXStartEnd [xb x0, xb x1] ++ packetEvents c.opSetRamYStartEnd [lo8 y0, hi8 y0, lo8 y1, hi8 y1]

/-- The events of a SET_CURSOR whose wait meets `m` busy polls (R171). -/
def cursorEvents (c : Config) (x y : Word16) (m : Nat) : List Event :=
  packetEvents c.opSetRamXCounter [xb x] ++ packetEvents c.opSetRamYCounter [lo8 y, hi8 y] ++ waitEvents m

/-- The events of a TURN_ON_DISPLAY whose wait meets `m` busy polls (R180). -/
def refreshEvents (c : Config) (m : Nat) : List Event :=
  packetEvents c.opDisplayUpdateControl2 [0xC4#8] ++ packetEvents c.opMasterActivation [] ++
    packetEvents c.opTerminateFrameRw [] ++ waitEvents m

/-- The events of row `j` of the frame loop, whose wait meets `m` busy polls, with the bytes `row` (R181). -/
def rowEvents (c : Config) (j m : Nat) (row : List Byte) : List Event :=
  cursorEvents c 0#16 (BitVec.ofNat 16 j) m ++ packetEvents c.opWriteRam row

/-- The events of the whole frame loop, with the bytes `src j i`; the wait of row `j` meets `m j` busy polls, the wait of the refresh
`m 296` (R181). -/
def frameLoopEvents (c : Config) (src : Nat → Nat → Byte) (m : Nat → Nat) : List Event :=
  windowEvents c 0#16 0#16 127#16 295#16 ++
    (List.range 296).flatMap (fun j => rowEvents c j (m j) ((List.range 16).map (src j))) ++ refreshEvents c (m 296)

/-- The busy polls that the first `n` waits of the frame loop meet. -/
def pollsBefore (m : Nat → Nat) : Nat → Nat
  | 0 => 0
  | n + 1 => pollsBefore m n + m n

/-- How many requests the frame loop has made when row `j` begins (when the refresh begins, for `j = 296`): 32 for the window, then
for each row 20 for the cursor, its polls and delays, 68 for its bytes (R170, R171, R181). -/
def rowStart (m : Nat → Nat) (j : Nat) : Nat := 32 + 89 * j + 2 * pollsBefore m j

/-- How many requests the whole frame loop makes: R181's 26393 with an idle panel, and a poll and a delay more for each busy poll. -/
def frameRequests (m : Nat → Nat) : Nat := 26393 + 2 * pollsBefore m 297

/-- The 297 waits of a frame loop meet busy polls as `m` says, all within the poll limit (R134, R135, R181). -/
def FrameWaits (s : State) (m : Nat → Nat) : Prop :=
  (∀ j, j < 296 → BusyFor s (rowStart m j + 20) (m j)) ∧ BusyFor s (rowStart m 296 + 16) (m 296) ∧
    ∀ j, j ≤ 296 → WithinPolls s.cfg (m j)

/-- The events of INIT (R151 to R153). -/
def initEvents (c : Config) : List Event :=
  resetEvents ++ packetEvents c.opDriverOutputControl [0x27#8, 0x01#8, 0x00#8] ++
    packetEvents c.opBoosterSoftStart [c.booster0, c.booster1, c.booster2] ++ packetEvents c.opWriteVcom [c.vcomValue] ++
    packetEvents c.opSetDummyLinePeriod [c.dummyLineValue] ++ packetEvents c.opSetGateTime [c.gateTimeValue] ++
    packetEvents c.opDataEntryMode [c.dataEntryValue] ++ packetEvents c.opWriteLut (selectedLut c).toList

/-- The events of `n` busy polls with their delays (R134). -/
def busyEvents (n : Nat) : List Event := (List.replicate n [⟨.pinRead, .level .high⟩, ⟨.delay 200, .ok⟩]).flatten

/-! ## R22's table, as the spec prints it -/

/-- The columns of R22's table. -/
def lifeColumn : Life → Option Nat
  | .unbound => some 0
  | .uninitialized => some 1
  | .ready => some 2
  | .sleeping => some 3
  | .faulted => some 4
  | .released => some 5
  | .reset | .waveformLoaded | .busy => none

/-- The rows of R22's table: `none` is `ok`, else the error of a rejection (WRITE_FRAME's `Ready` cell with `fb_valid` set). -/
def lifeRow : HostOp → List (Option ErrCode)
  | .attach => [none, some .invalidState, some .invalidState, some .invalidState, some .invalidState,
      some .resourceUnavailable]
  | .init => [some .resourceUnavailable, none, none, none, none, some .resourceUnavailable]
  | .setWindow | .setCursor | .turnOnDisplay | .writeFrame | .clear | .display | .powerDown =>
    [some .resourceUnavailable, some .invalidState, none, some .invalidState, some .invalidState, some .resourceUnavailable]
  | .pack => [none, none, none, none, none, none]
  | .teardown => [some .resourceUnavailable, none, some .invalidState, none, none, some .resourceUnavailable]

/-- The cell of R22's table. -/
def lifeCell (op : HostOp) (l : Life) : Option (Option ErrCode) := (lifeColumn l).bind (fun n => (lifeRow op)[n]?)

/-! ## Pixels of a packed framebuffer -/

/-- `bit(X, Y)` of R222: bit `7 - (X mod 8)` of `FB[16*Y + X/8]`. -/
def fbBit (m : Memory) (x y : Nat) : Bool := (m.read (16 * y + x / 8)).getLsbD (7 - x % 8)

/-! ## The invariant of the machine -/

/-- The routine that line `n` of routine `r` calls, from the pseudocode of files 41 to 45 (R27). -/
def callee (r : Routine) (n : Nat) : Option Routine :=
  match r, n with
  | .op .init, 0 => some .resetSeq
  | .op .init, 17 => some .loadLut
  | .op .init, 1 | .op .init, 5 | .op .init, 9 | .op .init, 11 | .op .init, 13 | .op .init, 15 => some .sendCommand
  | .op .init, 2 | .op .init, 3 | .op .init, 4 | .op .init, 6 | .op .init, 7 | .op .init, 8 | .op .init, 10
  | .op .init, 12 | .op .init, 14 | .op .init, 16 => some .sendData
  | .loadLut, 0 => some .sendCommand
  | .loadLut, 3 => some .sendData
  | .op .setWindow, 0 | .op .setWindow, 3 => some .sendCommand
  | .op .setWindow, 1 | .op .setWindow, 2 | .op .setWindow, 4 | .op .setWindow, 5 | .op .setWindow, 6
  | .op .setWindow, 7 => some .sendData
  | .op .setCursor, 0 | .op .setCursor, 2 => some .sendCommand
  | .op .setCursor, 1 | .op .setCursor, 3 | .op .setCursor, 4 => some .sendData
  | .op .setCursor, 5 => some .waitIdle
  | .op .turnOnDisplay, 0 | .op .turnOnDisplay, 2 | .op .turnOnDisplay, 3 => some .sendCommand
  | .op .turnOnDisplay, 1 => some .sendData
  | .op .turnOnDisplay, 4 => some .waitIdle
  | .op .writeFrame, 0 | .op .clear, 0 => some (.op .setWindow)
  | .op .writeFrame, 3 | .op .clear, 3 => some (.op .setCursor)
  | .op .writeFrame, 4 | .op .clear, 4 => some .sendCommand
  | .op .writeFrame, 6 | .op .clear, 6 => some .sendData
  | .op .writeFrame, 9 | .op .clear, 9 => some (.op .turnOnDisplay)
  | .op .display, 0 => some (.op .pack)
  | .op .display, 1 => some (.op .writeFrame)
  | .op .powerDown, 0 => some .sendCommand
  | .op .powerDown, 1 => some .sendData
  | _, _ => none

/-- The call chain is one the microprogram can make: each return address is the line after a call of the routine below it, and the
outermost routine is a host operation (R27). -/
def chainOk (r : Routine) : List PC → Bool
  | [] =>
    match r with
    | .op _ => true
    | .idle | .sendCommand | .sendData | .waitIdle | .resetSeq | .loadLut => false
  | f :: fs => decide (1 ≤ f.step) && decide (callee f.routine (f.step - 1) = some r) && chainOk f.routine fs

/-- The loop counters are inside their loops (R24): in the body of the row loop `j < 296`, in that of the byte loop `i < 16` too, in
that of the LUT loop `k < 30`. -/
def countersOk (c : Counters) (f : PC) : Bool :=
  match f.routine, f.step with
  | .loadLut, 4 => decide (c.k < 30)
  | .op .writeFrame, 4 | .op .clear, 4 | .op .writeFrame, 5 | .op .clear, 5 => decide (c.j < 296)
  | .op .writeFrame, 7 | .op .clear, 7 => decide (c.j < 296) && decide (c.i < 16)
  | _, _ => true

/-- The lifecycle states a host can see between operations: all but the transient ones (R22). -/
def lifeSettled : Life → Bool
  | .reset | .waveformLoaded | .busy => false
  | .unbound | .uninitialized | .ready | .sleeping | .faulted | .released => true

/-- While SET_WINDOW or SET_CURSOR is the running host operation, `life` is `Ready` (R22). -/
def lifeOk (s : State) : Bool :=
  match runningRoutine s.pc s.rs with
  | .op .setWindow | .op .setCursor => decide (s.life = .ready)
  | _ => true

/-- The line at `pc` makes a request. -/
def atRequest (s : State) : Bool :=
  match line s with
  | .ask _ => true
  | .silent _ | .ret _ | .raise _ _ | .stop _ => false

/-- A pending act of the host is one the model gives a meaning: a register that exists, an image, a packet that decodes (R29, R99). -/
def pendingOk (c : Config) : Pending → Bool
  | .write reg _ => decide (reg < 12)
  | .image _ => true
  | .packet bytes =>
    match decodePacket c bytes with
    | .ok _ => true
    | .error _ => false

/-- The sequencer's part of the invariant. Idle: no routine, no return address, a settled lifecycle state. Running: waiting for a
request, in a call chain of the microprogram, with the counters inside their loops. -/
def seqInv (s : State) : Prop :=
  if s.flags.active then
    atRequest s = true ∧ chainOk s.pc.routine s.rs = true ∧ s.rs.all (countersOk s.cnt) = true ∧ lifeOk s = true
  else s.pc = ⟨.idle, 0⟩ ∧ s.rs = [] ∧ lifeSettled s.life = true

/-- The memories' part: `FB` and the ghost memories are in canonical form (R35, R71). -/
def memInv (s : State) : Prop :=
  s.fb.wf = true ∧ s.panel.ram.rising = true ∧ s.panel.shown.rising = true ∧ s.panel.left.rising = true

/-- The operand registers' part: each holds a value of its width (R9, R23). -/
def argsInv (s : State) : Prop :=
  s.args.argX0 < 2 ^ s.cfg.argw ∧ s.args.argY0 < 2 ^ s.cfg.argw ∧ s.args.argX1 < 2 ^ s.cfg.argw ∧
    s.args.argY1 < 2 ^ s.cfg.argw ∧ s.args.imgW < 2 ^ s.cfg.argw ∧ s.args.imgH < 2 ^ s.cfg.argw

/-- The invariant of the machine. -/
def Invariant (s : State) : Prop := seqInv s ∧ memInv s ∧ argsInv s ∧ s.inbox.all (pendingOk s.cfg) = true

/-! ## The shape of the history (R92, R137) -/

/-- How far the last frame of a history has come. -/
inductive FrameState
  | between
  | dcWritten (d : Level)
  | csLow (d : Level)
  | byteSent (d : Level)
  | broken
  deriving DecidableEq, Repr

/-- One event after another: within a frame only the next request of R92 may come, and no poll (R137 (5)); between frames
anything but a byte or a write of `CS`. This is stricter than the reference decoder, which lets a write of `RST` stand inside a
frame (log entry 21): the block makes none there (R137 (6)). -/
def frameNext (f : FrameState) (e : Event) : FrameState :=
  match f, e with
  | .between, ⟨.pinWrite .dc d, .ok⟩ => .dcWritten d
  | .between, ⟨.pinWrite .rst _, .ok⟩ => .between
  | .between, ⟨.pinRead, .level _⟩ => .between
  | .between, ⟨.delay _, .ok⟩ => .between
  | .between, ⟨.acquire _, .ok⟩ => .between
  | .between, ⟨.release _, .ok⟩ => .between
  | .dcWritten d, ⟨.pinWrite .cs .low, .ok⟩ => .csLow d
  | .dcWritten .low, ⟨.release _, .ok⟩ => .dcWritten .low
  | .csLow d, ⟨.spiWrite _, .ok⟩ => .byteSent d
  | .byteSent _, ⟨.pinWrite .cs .high, .ok⟩ => .between
  | _, _ => .broken

/-- How far the last frame of a history has come. -/
def frameState (hist : List Event) : FrameState := hist.foldl frameNext .between

/-- Where the last frame must stand when the sequencer is about to make the request at `pc`. TEARDOWN's own write of `DC` leaves it
there to the end (R202). -/
def expectedFrame (pc : PC) : FrameState :=
  match pc.routine, pc.step with
  | .sendCommand, 1 => .dcWritten .low
  | .sendCommand, 2 => .csLow .low
  | .sendCommand, 3 => .byteSent .low
  | .sendData, 1 => .dcWritten .high
  | .sendData, 2 => .csLow .high
  | .sendData, 3 => .byteSent .high
  | .op .teardown, 2 | .op .teardown, 3 | .op .teardown, 4 | .op .teardown, 5 | .op .teardown, 6 => .dcWritten .low
  | _, _ => .between

/-- `CS` is asserted exactly between lines S1 and S3 of a send routine (R137 (1), (2)). -/
def csAsserted (pc : PC) : Bool :=
  match pc.routine, pc.step with
  | .sendCommand, 2 | .sendCommand, 3 | .sendData, 2 | .sendData, 3 => true
  | _, _ => false

/-- No packet is pending at the model's own port: the inbox holds only what a host can do (R98). -/
def hostOnly (s : State) : Bool :=
  s.inbox.all (fun p => match p with
    | .packet _ => false
    | .write _ _ | .image _ => true)

/-- The history is a sequence of whole frames up to the one under way, and the `CS` latch agrees with it (R92, R137). -/
def FrameInv (s : State) : Prop :=
  (if s.flags.active then frameState s.hist = expectedFrame s.pc
   else frameState s.hist = .between ∨ (s.life = .released ∧ frameState s.hist = .dcWritten .low)) ∧
  (s.pins.cs = .driven .low ↔ (s.flags.active = true ∧ csAsserted s.pc = true))

end Sys2Proof.Safety
end

