-- ==== Sys2Proof/Certificates/Slice0/Obligations.lean ====
section
/-! DEFINITION. The statements for the provers. -/

open Sys2Proof Sys2Proof.Machine Sys2Proof.Safety

/-! ## Encoding -/

/-- R93, R94, R97, R99: every well-formed instruction is decoded back from its code, with every operand, under every configuration
whose command bytes are distinct. -/
def Obligations.DecodeEncodeRoundTrip : Prop :=
  ∀ (c : Config) (i : Instr), c.distinctCommands = true → i.wf = true → decode c (encode c i) = .ok i

/-- R94, R97, R99: whatever the decoder accepts is a well-formed instruction and is that instruction's code, under every
configuration. -/
def Obligations.DecodedIsEncoded : Prop :=
  ∀ (c : Config) (x : Code) (i : Instr), decode c x = .ok i → i.wf = true ∧ encode c i = x

/-- R94, R97: words written out from the spec's tables decode to the instructions they stand for (default command bytes). -/
def Obligations.SpecWordsDecode : Prop :=
  decode Config.default (.host 0b0001#4) = .ok .init ∧
  decode Config.default (.host 0b0110#4) = .ok .clear ∧
  decode Config.default (.host 0b1010#4) = .ok .teardown ∧
  decode Config.default (.host 0b1100#4) = .ok .reservedC ∧
  decode Config.default (.packet [0x44#8, 0x00#8, 0x0F#8]) = .ok (.pktSetRamXStartEnd 0x00#8 0x0F#8) ∧
  decode Config.default (.packet [0x45#8, 0x00#8, 0x00#8, 0x27#8, 0x01#8]) =
    .ok (.pktSetRamYStartEnd 0x00#8 0x00#8 0x27#8 0x01#8) ∧
  decode Config.default (.packet [0x20#8]) = .ok .pktMasterActivation ∧
  decode Config.default (.packet [0x20#8, 0x00#8]) = .error (.wrongDataCount .masterActivation 1) ∧
  decodeTableWord 8 0x09 = some .powerDown ∧
  decodeTableWord 8 0x2C = some (.pktWriteVcom 0x00#8)

/-- R93, R96: the reference decoder recovers any sequence of packets from the events of their frames. -/
def Obligations.PacketStreamDecodes : Prop :=
  ∀ ps : List RawPacket, decodeHistory (ps.flatMap (fun p => packetEvents p.cmd p.data)) = some ps

/-- R95: the field formulas, for all operands of any width (`low16` is the `t_*` register an operand goes through), the height
constant, and R95's examples, its `SetWindow(0,0,127,295)` among them (that SET_WINDOW makes exactly the events of `windowEvents`
is SetWindowCompletes). -/
def Obligations.FieldFormulas : Prop :=
  (∀ x : Nat, (xb (low16 x)).toNat = x / 8 % 256) ∧
  (∀ y : Nat, (lo8 (low16 y)).toNat = y % 256 ∧ (hi8 (low16 y)).toNat = y / 256 % 256) ∧
  (lo8 heightMinus1 = 0x27#8 ∧ hi8 heightMinus1 = 0x01#8) ∧
  (∀ x : Nat, x < 128 → (xb (low16 x)).toNat < 16) ∧
  (∀ y : Nat, y < 296 → (hi8 (low16 y)).toNat < 2) ∧
  (xb (low16 127) = 0x0F#8 ∧ xb (low16 0) = 0x00#8 ∧ xb (low16 8) = 0x01#8 ∧ xb (low16 7) = 0x00#8) ∧
  (lo8 (low16 295) = 0x27#8 ∧ hi8 (low16 295) = 0x01#8 ∧ hi8 (low16 255) = 0x00#8 ∧ hi8 (low16 256) = 0x01#8) ∧
  (∀ c : Config, windowEvents c (low16 0) (low16 0) (low16 127) (low16 295) =
    packetEvents c.opSetRamXStartEnd [0x00#8, 0x0F#8] ++
    packetEvents c.opSetRamYStartEnd [0x00#8, 0x00#8, 0x27#8, 0x01#8])

/-! ## Reset and invariants -/

/-- R41, R270: the values block reset leaves (those R41 states). -/
def Obligations.ResetState : Prop :=
  State.reset.life = .unbound ∧ State.reset.pc = ⟨.idle, 0⟩ ∧ State.reset.rs = [] ∧
  State.reset.flags = { active := false, busySample := false, fbValid := false, fault := false } ∧
  State.reset.res = { errCode := .ok, errOp := 0#4, errInfo := 0#8 } ∧
  State.reset.shadow.winValid = false ∧ State.reset.shadow.curValid = false ∧
  State.reset.pins = { rst := .undriven, dc := .undriven, cs := .undriven, ownRst := false, ownDc := false, ownCs := false,
                       ownBusy := false, ownSpi := false } ∧
  State.reset.hist = [] ∧ State.reset.panel.ram = [] ∧ State.reset.panel.shown = []

/-- The two invariants hold at reset. -/
def Obligations.ResetMeetsInvariants : Prop := Invariant State.reset ∧ FrameInv State.reset

/-- R21, R24, R26, R27, R35, R61, R62: from every state that meets the invariant a step answers a next state (no fault, no
refusal), and the invariant still holds: the sequencer waits at a request line, in a call chain of the microprogram, with its
counters inside their loops; idle, it is in a lifecycle state a host can see; the memories keep their canonical form; the operand
registers hold values of their width. -/
def Obligations.StepKeepsInvariant : Prop :=
  ∀ s : State, Invariant s → ∃ t : State, step s = .next t ∧ Invariant t

/-- R92, R137 (1), (2), (3), (5): every step whose request (if it makes one) does not fail keeps the history a sequence of whole
frames up to the one under way, in which only the frame's own requests are made, and `CS` is low exactly inside a frame. -/
def Obligations.StepKeepsFraming : Prop :=
  ∀ s t : State, Invariant s → FrameInv s → s.failsAt s.hist.length = false → hostOnly s = true → step s = .next t →
    FrameInv t ∧ hostOnly t = true

/-- R96: a history whose last frame is complete (or that ends with TEARDOWN's write of `DC`) parses. -/
def Obligations.FramedHistoryParses : Prop :=
  ∀ hist : List Event, frameState hist = .between ∨ frameState hist = .dcWritten .low →
    ∃ fs : List Frame, parseFrames (hist.filter Event.framing) = some fs

/-- R27: the return stack is at most three deep. -/
def Obligations.ReturnStackDepth : Prop := ∀ s : State, Invariant s → s.rs.length ≤ 3

/-- R35, R61: two canonical framebuffers that read alike everywhere are the same data. -/
def Obligations.CanonicalMemoryUnique : Prop :=
  ∀ m n : Memory, m.wf = true → n.wf = true → (∀ a : Nat, m.read a = n.read a) → m = n

/-! ## Rules of the whole machine -/

/-- R97, R41, R29, R37: all an idle step does. A word written to `OP` runs the instruction it decodes to; the bytes of a packet run
theirs, and those of no packet are refused by name; a write of another register is that write; a presented image becomes the
image; each act is taken from the inbox and nothing else changes before it. With nothing pending nothing happens. -/
def Obligations.StepRunsDecoded : Prop :=
  ∀ (s : State) (rest : List Pending), s.flags.active = false →
    (∀ v : Nat, s.inbox = .write 0 v :: rest → step s = exec (decodeHost (BitVec.ofNat 4 v)) { s with inbox := rest }) ∧
    (∀ (bytes : List Byte) (i : Instr), s.inbox = .packet bytes :: rest → decodePacket s.cfg bytes = .ok i →
      step s = exec i { s with inbox := rest }) ∧
    (∀ (bytes : List Byte) (e : DecodeError), s.inbox = .packet bytes :: rest → decodePacket s.cfg bytes = .error e →
      step s = .refused (.undecodable e)) ∧
    (∀ n v : Nat, s.inbox = .write (n + 1) v :: rest → step s = hostWrite (n + 1) v { s with inbox := rest }) ∧
    (∀ img : Image, s.inbox = .image img :: rest → step s = .next { s with inbox := rest, img := img }) ∧
    (s.inbox = [] → step s = .next s)

/-- R11, R73, R130: each step of a running operation makes exactly one request, the one its line asks for, and appends exactly its
event. -/
def Obligations.OneRequestPerStep : Prop :=
  ∀ s t : State, Invariant s → s.flags.active = true → step s = .next t →
    ∃ (r : Request) (a : Reply), line s = .ask r ∧ t.hist = s.hist ++ [⟨r, a⟩]

/-- R39: the history only grows, in every step from every state. -/
def Obligations.HistoryOnlyGrows : Prop := ∀ s t : State, step s = .next t → ∃ es : List Event, t.hist = s.hist ++ es

/-- R23, R32, R37: the sequencer writes no operand register, no part of the configuration and no input, in any step of an operation
nor in any instruction. -/
def Obligations.InputsNeverWritten : Prop :=
  (∀ s t : State, s.flags.active = true → step s = .next t → SameInputs s t) ∧
  (∀ (i : Instr) (s t : State), exec i s = .next t → SameInputs s t)

/-- R35, R28: `FB` and `fb_valid` are written by PACK (also inside DISPLAY) and by nothing else. -/
def Obligations.FbWrittenOnlyByPack : Prop :=
  (∀ (i : Instr) (s t : State), i ≠ .pack → i ≠ .display → exec i s = .next t →
    t.fb = s.fb ∧ t.flags.fbValid = s.flags.fbValid) ∧
  (∀ s t : State, Invariant s → s.flags.active = true → step s = .next t → t.fb = s.fb ∧ t.flags.fbValid = s.flags.fbValid)

/-- R28: `fault` is cleared by nothing but block reset. -/
def Obligations.FaultIsSticky : Prop := ∀ s t : State, step s = .next t → s.flags.fault = true → t.flags.fault = true

/-- R28, R34: `busy_sample` holds the level the last answered poll returned: a step whose poll is answered sets it to that level, any
other step of a running operation keeps it. -/
def Obligations.BusySampleOnlyByPoll : Prop :=
  ∀ s t : State, s.flags.active = true → step s = .next t →
    (line s = .ask .pinRead → s.failsAt s.hist.length = false →
      t.flags.busySample = (s.busyAt s.hist.length).toBool) ∧
    (line s ≠ .ask .pinRead ∨ s.failsAt s.hist.length = true → t.flags.busySample = s.flags.busySample)

/-- R180, R274: only the end of a TURN_ON_DISPLAY makes the glass show something: a step leaves it, or makes it unknown (log
entries 8 and 9), or is the LOW poll that ends TURN_ON_DISPLAY's own wait, and then it shows panel RAM. Derived: it rests on the
ghost model R72. -/
def Obligations.GlassChangesOnlyByRefresh : Prop :=
  ∀ s t : State, Invariant s → step s = .next t →
    t.panel.shown = s.panel.shown ∨ t.panel.shown = [] ∨
      (s.flags.active = true ∧ s.pc = ⟨.waitIdle, 1⟩ ∧ s.rs.head? = some ⟨.op .turnOnDisplay, 5⟩ ∧
        s.failsAt s.hist.length = false ∧ s.busyAt s.hist.length = .low ∧ t.life = .ready ∧ t.panel.shown = s.panel.ram)

/-! ## Host registers -/

/-- R29, R251: a host write of a register changes the operand registers at most; no write changes `life`. -/
def Obligations.HostWriteTouchesOperandsOnly : Prop :=
  ∀ (reg : Nat) (v : Nat) (s t : State), hostWrite reg v s = .next t → t = { s with args := t.args }

/-- R29, R23: a read-write register reads back what was written, cut to its width (8 bits for `ARG_FILL`, `ARGW` for the others), so
every value of its width whole; no other register changes; `OP` reads 0. -/
def Obligations.HostRegistersReadBack : Prop :=
  ∀ (reg v : Nat) (s : State), s.flags.active = false → 4 ≤ reg → reg ≤ 10 →
    ∃ t : State, hostWrite reg v s = .next t ∧
      hostRead reg t = some (if reg = 8 then v % 256 else v % 2 ^ s.cfg.argw) ∧
      (reg ≠ 8 → v < 2 ^ s.cfg.argw → hostRead reg t = some v) ∧
      (∀ n : Nat, n ≠ reg → hostRead n t = hostRead n s) ∧ hostRead 0 t = some 0

/-- R30: `STATUS`, field by field, in every state; a host write of it does not change it. -/
def Obligations.StatusLayout : Prop :=
  (∀ s : State, ∃ v : Byte, hostRead 1 s = some v.toNat ∧
    v.extractLsb' 0 4 = s.life.code ∧ v.getLsbD 4 = s.flags.active ∧ v.getLsbD 5 = s.flags.fbValid ∧
    v.getLsbD 6 = s.flags.fault ∧ v.getLsbD 7 = s.flags.busySample) ∧
  (∀ (v : Nat) (s t : State), hostWrite 1 v s = .next t → hostRead 1 t = hostRead 1 s)

/-- R31: `ERR` and `ERRINFO`, field by field; `ERRINFO`'s value for each request that can fail. -/
def Obligations.ErrLayout : Prop :=
  (∀ s : State, ∃ v : Byte, hostRead 2 s = some v.toNat ∧
    v.extractLsb' 0 3 = s.res.errCode.code ∧ v.extractLsb' 3 4 = s.res.errOp ∧ v.getLsbD 7 = false ∧
    hostRead 3 s = some s.res.errInfo.toNat) ∧
  (∀ l : Level, errInfoOf (.pinWrite .rst l) = 0x00#8 ∧ errInfoOf (.pinWrite .dc l) = 0x08#8 ∧
    errInfoOf (.pinWrite .cs l) = 0x10#8) ∧
  errInfoOf .pinRead = 0x19#8 ∧ (∀ b : Byte, errInfoOf (.spiWrite b) = 0x22#8) ∧
  (∀ n : Nat, errInfoOf (.delay n) = 0x3B#8) ∧
  (errInfoOf (.acquire .rst) = 0x04#8 ∧ errInfoOf (.acquire .dc) = 0x0C#8 ∧ errInfoOf (.acquire .cs) = 0x14#8 ∧
    errInfoOf (.acquire .busy) = 0x1C#8 ∧ errInfoOf (.acquire .spi) = 0x24#8) ∧
  (errInfoOf (.release .rst) = 0x05#8 ∧ errInfoOf (.release .dc) = 0x0D#8 ∧ errInfoOf (.release .cs) = 0x15#8 ∧
    errInfoOf (.release .busy) = 0x1D#8 ∧ errInfoOf (.release .spi) = 0x25#8)

/-- R32: `CFG`, field by field; no step changes the configuration. -/
def Obligations.ConfigurationIsConstant : Prop :=
  (∀ s : State, ∃ v : Byte, hostRead 11 s = some v.toNat ∧
    v.getLsbD 0 = decide (s.cfg.lutSelect = .partialUpdate) ∧ v.getLsbD 1 = s.cfg.portraitClearOnNonblack ∧
    v.getLsbD 2 = s.cfg.busyTimeoutPolls.isSome ∧ v.extractLsb' 3 5 = 0#5) ∧
  (∀ s t : State, step s = .next t → t.cfg = s.cfg)

/-! ## Issue -/

/-- R22: each operation in each lifecycle state a host can see. A rejected operation answers its error, makes no request and does not
start; an accepted one makes no request while it is issued and is running afterwards (PACK, which makes none, has ended; DISPLAY
may be stopped by its image). -/
def Obligations.LegalityTable : Prop :=
  ∀ (op : HostOp) (s : State) (cell : Option ErrCode), s.flags.active = false → lifeCell op s.life = some cell →
    (op = .writeFrame → s.flags.fbValid = true) →
    ∃ t : State, exec op.instr s = .next t ∧ t.hist = s.hist ∧
      (∀ e : ErrCode, cell = some e →
        t.flags.active = false ∧ t.res.errCode = e ∧ t.res.errOp = op.code ∧ t.flags.fault = true ∧ t.life = s.life) ∧
      (cell = none → op ≠ .pack → op ≠ .display → t.flags.active = true ∧ t.res = s.res) ∧
      (cell = none → op = .pack → t.flags.active = false ∧ t.res.errCode ≠ .resourceUnavailable ∧
        t.res.errCode ≠ .invalidState) ∧
      (cell = none → op = .display → t.flags.active = true ∨ t.res.errCode = .unsupportedInput)

/-- R22, R247: a rejected operation "makes no shim request and changes no state except the result registers" and `fault`: the whole
next state, for every operation and every reason to reject it, WRITE_FRAME's `fb_valid` among them. The panel is no state of the
block (R20); its ghost is unknown after every such error (R272; log entry 8). -/
def Obligations.RejectionChangesOnlyResults : Prop :=
  ∀ (op : HostOp) (s : State), Idle s →
    (∀ e : ErrCode, lifeCell op s.life = some (some e) →
      exec op.instr s = .next { s with
        res := { s.res with errCode := e, errOp := op.code }, flags := { s.flags with fault := true },
        panel := s.panel.forgetAll }) ∧
    (op = .writeFrame → s.life = .ready → s.flags.fbValid = false →
      exec op.instr s = .next { s with
        res := { s.res with errCode := .invalidState, errOp := op.code }, flags := { s.flags with fault := true },
        panel := s.panel.forgetAll })

/-- R246, R99 (1), U1: each reserved code is answered with `IllegalOperation`, in every lifecycle state, with no other effect. That
the ghost panel stays as it is too is log entry 8. -/
def Obligations.ReservedCodesIllegal : Prop :=
  ∀ (s : State) (i : Instr) (code : BitVec 4), Idle s →
    (i, code) ∈ [(Instr.reservedB, 0xB#4), (.reservedC, 0xC#4), (.reservedD, 0xD#4), (.reservedE, 0xE#4), (.reservedF, 0xF#4)] →
    decode s.cfg (.host code) = .ok i ∧
    exec i s = .next { s with
      res := { s.res with errCode := .illegalOperation, errOp := code }, flags := { s.flags with fault := true } }

/-- R40 (U2): a host operation or a reserved code issued while another operation runs is refused by name. -/
def Obligations.OverlappingIssueRefused : Prop :=
  ∀ (s : State) (i : Instr), s.flags.active = true → i.packetParts = none → exec i s = .refused .overlappingIssue

/-! ## Errors -/

/-- R248: what `raise E` does to the whole state, for every error and every host operation; and which operation's code a running
operation raises with: the issued one's, DISPLAY's when PACK runs inside it. The ghost panel's part is the model's
(log entry 8). -/
def Obligations.RaiseEffect : Prop :=
  ∀ (s : State) (op : HostOp),
    (raise .illegalOperation (some op.code) s = { s with
        res := { s.res with errCode := .illegalOperation, errOp := op.code },
        flags := { s.flags with fault := true, active := false }, pc := ⟨.idle, 0⟩, rs := [] }) ∧
    (∀ p : Cause × ErrCode, p ∈ [(.resourceUnavailable, .resourceUnavailable), (.invalidState, .invalidState),
        (.unsupportedInput, .unsupportedInput)] →
      raise p.1 (some op.code) s = { s with
        res := { s.res with errCode := p.2, errOp := op.code }, flags := { s.flags with fault := true, active := false },
        pc := ⟨.idle, 0⟩, rs := [], panel := s.panel.forgetAll }) ∧
    (∀ r : Request, raise (.transportFailure r) (some op.code) s = { s with
        res := { errCode := .transportFailure, errOp := op.code, errInfo := errInfoOf r },
        flags := { s.flags with fault := true, active := false }, pc := ⟨.idle, 0⟩, rs := [],
        life := (if op = .attach ∨ op = .teardown then .released else .faulted), panel := s.panel.failed (rowsSent s) }) ∧
    (raise .hardwareNeverIdle (some op.code) s = { s with
        res := { s.res with errCode := .hardwareNeverIdle, errOp := op.code },
        flags := { s.flags with fault := true, active := false }, pc := ⟨.idle, 0⟩, rs := [], life := .faulted,
        panel := s.panel.failed (rowsSent s) }) ∧
    (runningRoutine s.pc s.rs = .op op → s.issuedCode = some op.code) ∧
    (s.pc.routine = .op .pack → s.rs = [⟨.op .display, 1⟩] → s.issuedCode = some HostOp.display.code)

/-- R243: a request that answers `fail` ends the running operation there: the request is in the history marked `fail`, no latch and
nothing else of the block changes, and TransportFailure is recorded with the request's kind and resource. The ghost panel's part
is the model's (log entry 8). -/
def Obligations.TransportFailureAborts : Prop :=
  ∀ (s : State) (r : Request) (op : HostOp), s.flags.active = true → line s = .ask r → s.failsAt s.hist.length = true →
    runningRoutine s.pc s.rs = .op op →
    step s = .next { s with
      hist := s.hist ++ [⟨r, .fail⟩], res := { errCode := .transportFailure, errOp := op.code, errInfo := errInfoOf r },
      flags := { s.flags with fault := true, active := false }, pc := ⟨.idle, 0⟩, rs := [],
      life := (if op = .attach ∨ op = .teardown then .released else .faulted), panel := s.panel.failed (rowsSent s) }

/-! ## Transport and busy wait -/

/-- R132, R133: the requests of SEND_COMMAND and SEND_DATA: three steps bring the routine from its first line to its last request,
and nothing but the latches and the history changes; the fourth raises `CS` and the routine returns. -/
def Obligations.SendFrames : Prop :=
  ∀ (s : State) (r : Routine) (d : Level), (r, d) ∈ [(Routine.sendCommand, Level.low), (.sendData, .high)] →
    s.flags.active = true → s.pc = ⟨r, 0⟩ → Quiet s 4 →
    ∃ t : State, run 3 s = .next t ∧
      t = { s with pc := ⟨r, 3⟩, pins := { s.pins with dc := .driven d, cs := .driven .low },
                   hist := s.hist ++ [⟨.pinWrite .dc d, .ok⟩, ⟨.pinWrite .cs .low, .ok⟩, ⟨.spiWrite s.tmp.tByte, .ok⟩] } ∧
      line t = .ask (.pinWrite .cs .high)

/-- R136, R279: without a poll limit, against a panel that always reads busy, WAIT_IDLE polls for ever: after any number of polls the
operation still runs at the same line, `life` and `fault` as they were, and the history has grown by that many `BUSY?1 DLY:200`. -/
def Obligations.BusyPanelHangs : Prop :=
  ∀ s : State, s.flags.active = true → s.pc = ⟨.waitIdle, 1⟩ → s.cfg.busyTimeoutPolls = none →
    (∀ m : Nat, s.failsAt (s.hist.length + m) = false ∧ s.busyAt (s.hist.length + m) = .high) →
    ∀ n : Nat, ∃ t : State, run (2 * n) s = .next t ∧ t.flags.active = true ∧ t.pc = ⟨.waitIdle, 1⟩ ∧ t.rs = s.rs ∧
      t.life = s.life ∧ t.flags.fault = s.flags.fault ∧ t.res = s.res ∧ t.hist = s.hist ++ busyEvents n ∧
      t.cnt = { s.cnt with polls := s.cnt.polls + n }

/-- R135: with a poll limit `N`, a wait whose `N` reads all return `HIGH` makes exactly `N` reads and `N - 1` delays and then raises
HardwareNeverIdle, with no further delay. -/
def Obligations.HardenedWaitRaises : Prop :=
  ∀ (s : State) (N : Nat) (op : HostOp), s.flags.active = true → s.pc = ⟨.waitIdle, 1⟩ → s.cnt.polls = 0 →
    s.cfg.busyTimeoutPolls = some (N + 1) → runningRoutine s.pc s.rs = .op op → Quiet s (2 * N + 1) →
    (∀ m : Nat, m < 2 * N + 1 → s.busyAt (s.hist.length + m) = .high) →
    run (2 * N + 1) s = .next { s with
      hist := s.hist ++ busyEvents N ++ [⟨.pinRead, .level .high⟩],
      res := { s.res with errCode := .hardwareNeverIdle, errOp := op.code },
      flags := { s.flags with fault := true, active := false, busySample := true }, cnt := { s.cnt with polls := N },
      pc := ⟨.idle, 0⟩, rs := [], life := .faulted, panel := s.panel.failed (rowsSent s) }

/-- R282: a wait does not return while `BUSY` reads busy, and returns directly after a read that returned `LOW`; between two reads
lies exactly one delay of 200 ms and nothing else. -/
def Obligations.WaitReturnsOnLow : Prop :=
  ∀ s t : State, Invariant s → s.flags.active = true → s.failsAt s.hist.length = false → step s = .next t →
    (s.pc = ⟨.waitIdle, 1⟩ → s.busyAt s.hist.length = .low →
      t.hist = s.hist ++ [⟨.pinRead, .level .low⟩] ∧ t.pc.routine ≠ .waitIdle) ∧
    (s.pc = ⟨.waitIdle, 1⟩ → s.busyAt s.hist.length = .high →
      t.hist = s.hist ++ [⟨.pinRead, .level .high⟩] ∧
      ((t.pc = ⟨.waitIdle, 3⟩ ∧ t.rs = s.rs ∧ t.flags.active = true) ∨
        (s.cfg.busyTimeoutPolls ≠ none ∧ t.flags.active = false ∧ t.res.errCode = .hardwareNeverIdle))) ∧
    (s.pc = ⟨.waitIdle, 3⟩ →
      t.hist = s.hist ++ [⟨.delay 200, .ok⟩] ∧ t.pc = ⟨.waitIdle, 1⟩ ∧ t.rs = s.rs ∧ t.flags.active = true)

/-- R138: one SPI write on the wires: eight clock pulses, the panel samples bit 7 first, down to bit 0 (`SPI_MSB_FIRST`), and the
clock ends low. -/
def Obligations.SpiWaveSamples : Prop :=
  ∀ (c : Config) (b : Byte), c.spiMsbFirst = true →
    spiSamples .low (spiWave c b) = ((List.range 8).map (fun n => Level.ofBool (b.getLsbD (7 - n)))) ∧
    (spiWave c b).getLast? = some ⟨Level.ofBool (b.getLsbD 0), .low⟩ ∧ (spiWave c b).length = 24

/-! ## Host operations, from issue to end -/

/-- R200: ATTACH in `Unbound`, no request failing: accepted, and after its five requests ended; the whole end state. -/
def Obligations.AttachCompletes : Prop :=
  ∀ s : State, s.flags.active = false → s.life = .unbound → Quiet s 5 →
    ∃ t : State, exec .attach s = .next t ∧ t.flags.active = true ∧ t.hist = s.hist ∧
      run 5 t = .next { s with
        life := .uninitialized, pc := ⟨.idle, 0⟩, rs := [], res := { s.res with errCode := .ok },
        pins := { s.pins with ownRst := true, ownDc := true, ownCs := true, ownBusy := true, ownSpi := true },
        hist := s.hist ++ [⟨.acquire .rst, .ok⟩, ⟨.acquire .dc, .ok⟩, ⟨.acquire .cs, .ok⟩, ⟨.acquire .busy, .ok⟩,
          ⟨.acquire .spi, .ok⟩] }

/-- R151 to R153: INIT in `Uninitialized`, `Ready`, `Sleeping` or `Faulted`, no request failing: accepted, and after its 194
requests ended in `Ready`; the whole end state but for the ghost panel, whose RAM is unknown and whose glass is as before. -/
def Obligations.InitCompletes : Prop :=
  ∀ s : State, s.flags.active = false → s.life ∈ [Life.uninitialized, .ready, .sleeping, .faulted] → Quiet s 194 →
    ∃ (t : State) (p : Panel), exec .init s = .next t ∧ t.flags.active = true ∧ t.hist = s.hist ∧
      run 194 t = .next { s with
        life := .ready, pc := ⟨.idle, 0⟩, rs := [], res := { s.res with errCode := .ok },
        shadow := { s.shadow with winValid := false, curValid := false },
        pins := { s.pins with rst := .driven .high, dc := .driven .high, cs := .driven .high },
        cnt := { s.cnt with k := 30 }, tmp := { s.tmp with tByte := (selectedLut s.cfg)[29] },
        hist := s.hist ++ initEvents s.cfg, panel := p } ∧
      p.ram = [] ∧ p.shown = s.panel.shown ∧ p.asleep = false ∧ p.refreshing = false

/-- R170, R25: SET_WINDOW in `Ready`, no request failing: accepted, and after its 32 requests ended; the whole end state but for the
ghost panel, whose glass is as before. It holds for all operands, those outside the panel too (R173). -/
def Obligations.SetWindowCompletes : Prop :=
  ∀ s : State, s.flags.active = false → s.life = .ready → Quiet s 32 →
    ∃ (t : State) (p : Panel), exec .setWindow s = .next t ∧ t.flags.active = true ∧ t.hist = s.hist ∧
      run 32 t = .next { s with
        pc := ⟨.idle, 0⟩, rs := [], res := { s.res with errCode := .ok },
        shadow := { s.shadow with winXs := xb (low16 s.args.argX0), winXe := xb (low16 s.args.argX1),
                                  winYs := low16 s.args.argY0, winYe := low16 s.args.argY1, winValid := true },
        pins := { s.pins with dc := .driven .high, cs := .driven .high },
        tmp := { s.tmp with tX0 := low16 s.args.argX0, tY0 := low16 s.args.argY0, tX1 := low16 s.args.argX1,
                            tY1 := low16 s.args.argY1, tByte := hi8 (low16 s.args.argY1) },
        hist := s.hist ++ windowEvents s.cfg (low16 s.args.argX0) (low16 s.args.argY0) (low16 s.args.argX1)
          (low16 s.args.argY1), panel := p } ∧
      p.shown = s.panel.shown

/-- R171, R25, R134: SET_CURSOR in `Ready`, no request failing, its wait meeting `m` busy polls: accepted, and ended after its two
packets and the wait; the whole end state but for the ghost panel, whose glass is as before. -/
def Obligations.SetCursorCompletes : Prop :=
  ∀ (s : State) (m : Nat), s.flags.active = false → s.life = .ready → Quiet s (21 + 2 * m) → BusyFor s 20 m →
    WithinPolls s.cfg m →
    ∃ (t : State) (p : Panel), exec .setCursor s = .next t ∧ t.flags.active = true ∧ t.hist = s.hist ∧
      run (21 + 2 * m) t = .next { s with
        pc := ⟨.idle, 0⟩, rs := [], res := { s.res with errCode := .ok }, flags := { s.flags with busySample := false },
        shadow := { s.shadow with curX := xb (low16 s.args.argX0), curY := low16 s.args.argY0, curValid := true },
        pins := { s.pins with dc := .driven .high, cs := .driven .high }, cnt := { s.cnt with polls := m },
        tmp := { s.tmp with tX0 := low16 s.args.argX0, tY0 := low16 s.args.argY0, tByte := hi8 (low16 s.args.argY0) },
        hist := s.hist ++ cursorEvents s.cfg (low16 s.args.argX0) (low16 s.args.argY0) m, panel := p } ∧
      p.shown = s.panel.shown

/-- R180, R134: TURN_ON_DISPLAY in `Ready`, no request failing, its wait meeting `m` busy polls: accepted, and ended in `Ready` after
its three packets and the wait; the whole end state but for the ghost panel, whose glass shows panel RAM (R72 (3)), unless
a refresh was under way before (U7). -/
def Obligations.TurnOnDisplayCompletes : Prop :=
  ∀ (s : State) (m : Nat), s.flags.active = false → s.life = .ready → Quiet s (17 + 2 * m) → BusyFor s 16 m →
    WithinPolls s.cfg m →
    ∃ (t : State) (p : Panel), exec .turnOnDisplay s = .next t ∧ t.flags.active = true ∧ t.hist = s.hist ∧
      run (17 + 2 * m) t = .next { s with
        pc := ⟨.idle, 0⟩, rs := [], res := { s.res with errCode := .ok }, flags := { s.flags with busySample := false },
        pins := { s.pins with dc := .driven .low, cs := .driven .high }, cnt := { s.cnt with polls := m },
        tmp := { s.tmp with tByte := s.cfg.opTerminateFrameRw },
        hist := s.hist ++ refreshEvents s.cfg m, panel := p } ∧
      (s.panel.refreshing = false → p.ram = s.panel.ram ∧ p.shown = s.panel.ram) ∧ p.refreshing = false

/-- R181, R182: WRITE_FRAME in `Ready` with `fb_valid`, no request failing, its 297 waits meeting any numbers `m` of busy polls:
accepted, and ended after R181's 26393 requests and two more for each busy poll, which send the 296 rows of `FB`; the whole end
state but for the ghost panel; under R72 an awake panel, not refreshing, shows `FB`. -/
def Obligations.WriteFrameCompletes : Prop :=
  ∀ (s : State) (m : Nat → Nat), s.flags.active = false → s.life = .ready → s.flags.fbValid = true → Quiet s (frameRequests m) →
    FrameWaits s m →
    ∃ (t : State) (p : Panel), exec .writeFrame s = .next t ∧ t.flags.active = true ∧ t.hist = s.hist ∧
      run (frameRequests m) t = .next { s with
        pc := ⟨.idle, 0⟩, rs := [], res := { s.res with errCode := .ok }, flags := { s.flags with busySample := false },
        shadow := { winXs := 0#8, winXe := 15#8, winYs := 0#16, winYe := 295#16, curX := 0#8, curY := 295#16,
                    winValid := true, curValid := true },
        pins := { s.pins with dc := .driven .low, cs := .driven .high },
        cnt := { s.cnt with j := 296, i := 16, polls := m 296 },
        tmp := { s.tmp with tByte := s.cfg.opTerminateFrameRw, tX0 := 0#16, tY0 := 295#16, tX1 := 127#16, tY1 := 295#16 },
        hist := s.hist ++ frameLoopEvents s.cfg (fun j i => s.fb.read (16 * j + i)) m, panel := p } ∧
      (s.panel.asleep = false → s.panel.refreshing = false → ∀ x y : Nat, x < 16 → y < 296 →
        p.shownAt x y = some (s.fb.read (16 * y + x)))

/-- R181, R183: CLEAR in `Ready`, no request failing, its 297 waits meeting any numbers `m` of busy polls: accepted, and ended after
R181's 26393 requests and two more for each busy poll, which send 296 rows of 16 bytes `ARG_FILL`; the whole end state but for the
ghost panel; under R72 an awake panel, not refreshing, shows `ARG_FILL` everywhere. -/
def Obligations.ClearCompletes : Prop :=
  ∀ (s : State) (m : Nat → Nat), s.flags.active = false → s.life = .ready → Quiet s (frameRequests m) →
    FrameWaits s m →
    ∃ (t : State) (p : Panel), exec .clear s = .next t ∧ t.flags.active = true ∧ t.hist = s.hist ∧
      run (frameRequests m) t = .next { s with
        pc := ⟨.idle, 0⟩, rs := [], res := { s.res with errCode := .ok }, flags := { s.flags with busySample := false },
        shadow := { winXs := 0#8, winXe := 15#8, winYs := 0#16, winYe := 295#16, curX := 0#8, curY := 295#16,
                    winValid := true, curValid := true },
        pins := { s.pins with dc := .driven .low, cs := .driven .high },
        cnt := { s.cnt with j := 296, i := 16, polls := m 296 },
        tmp := { tByte := s.cfg.opTerminateFrameRw, tX0 := 0#16, tY0 := 295#16, tX1 := 127#16, tY1 := 295#16,
                 tFill := s.args.argFill },
        hist := s.hist ++ frameLoopEvents s.cfg (fun _ _ => s.args.argFill) m, panel := p } ∧
      (s.panel.asleep = false → s.panel.refreshing = false → ∀ x y : Nat, x < 16 → y < 296 →
        p.shownAt x y = some s.args.argFill)

/-- R184: DISPLAY in `Ready` of an image of a supported size, no request failing, its 297 waits meeting any numbers `m` of busy
polls: accepted, the image packed, and ended after R181's 26393 requests and two more for each busy poll, which send the packed
image; the whole end state but for the ghost panel; under R72 an awake panel, not refreshing, shows the packed image. -/
def Obligations.DisplayCompletes : Prop :=
  ∀ (s : State) (fb : Memory) (m : Nat → Nat), s.flags.active = false → s.life = .ready → Quiet s (frameRequests m) →
    FrameWaits s m →
    packImage s.cfg.portraitClearOnNonblack s.args.imgW s.args.imgH s.img = some fb →
    ∃ (t : State) (p : Panel), exec .display s = .next t ∧ t.flags.active = true ∧ t.hist = s.hist ∧ t.fb = fb ∧
      run (frameRequests m) t = .next { s with
        pc := ⟨.idle, 0⟩, rs := [], res := { s.res with errCode := .ok },
        flags := { s.flags with busySample := false, fbValid := true }, fb := fb,
        shadow := { winXs := 0#8, winXe := 15#8, winYs := 0#16, winYe := 295#16, curX := 0#8, curY := 295#16,
                    winValid := true, curValid := true },
        pins := { s.pins with dc := .driven .low, cs := .driven .high },
        cnt := { packedCounters s.args.imgW s.cnt with j := 296, i := 16, polls := m 296 },
        tmp := { s.tmp with tByte := s.cfg.opTerminateFrameRw, tX0 := 0#16, tY0 := 295#16, tX1 := 127#16, tY1 := 295#16 },
        hist := s.hist ++ frameLoopEvents s.cfg (fun j i => fb.read (16 * j + i)) m, panel := p } ∧
      (s.panel.asleep = false → s.panel.refreshing = false → ∀ x y : Nat, x < 16 → y < 296 →
        p.shownAt x y = some (fb.read (16 * y + x)))

/-- R182, R272: an error while a WRITE_FRAME runs, host-issued or inside DISPLAY: a failed request, or the poll that uses up the
limit. The rows sent (those before row `j`, none inside SET_WINDOW) are left in panel RAM, as `leftAt` tells, and no other row is;
panel RAM and glass themselves are unknown from then on (log entry 8). -/
def Obligations.FailureKeepsRowsSent : Prop :=
  ∀ (s t : State) (r : Request) (n : Nat), Invariant s → s.flags.active = true → ⟨.op .writeFrame, n⟩ ∈ s.rs →
    line s = .ask r → step s = .next t →
    (s.failsAt s.hist.length = true ∨
      (s.pc = ⟨.waitIdle, 1⟩ ∧ s.busyAt s.hist.length = .high ∧ pollsExhausted s = true)) →
    (∀ x y : Nat, x < 16 → t.panel.leftAt x y = if 2 ≤ n ∧ y < s.cnt.j then s.panel.ramAt x y else none) ∧
      t.panel.ram = [] ∧ t.panel.shown = []

/-- R182: a WRITE_FRAME that fails after row `r` "leaves rows 0 to `r` in panel RAM and no refresh": issued in `Ready` with
`fb_valid` on an awake panel (R72), its waits idle, its request number `n` the first to fail. Up to the master activation no
refresh was begun; the history ends with the failed request. Panel RAM and glass are unknown from then on (R272; log entry 8). -/
def Obligations.WriteFrameFailureKeepsRows : Prop :=
  ∀ (s : State) (r n : Nat), s.flags.active = false → s.life = .ready → s.flags.fbValid = true → s.panel.asleep = false →
    s.panel.refreshing = false → Quiet s n → IdlePanel s n → s.failsAt (s.hist.length + n) = true →
    r < 296 → rowStart (fun _ => 0) (r + 1) ≤ n → n < frameRequests (fun _ => 0) →
    ∃ (t u : State) (e : Event), exec .writeFrame s = .next t ∧ run (n + 1) t = .next u ∧ u.flags.active = false ∧
      u.life = .faulted ∧ u.res.errCode = .transportFailure ∧ u.fb = s.fb ∧
      (frameLoopEvents s.cfg (fun j i => s.fb.read (16 * j + i)) (fun _ => 0))[n]? = some e ∧
      u.hist = s.hist ++ (frameLoopEvents s.cfg (fun j i => s.fb.read (16 * j + i)) (fun _ => 0)).take n ++ [⟨e.req, .fail⟩] ∧
      (∀ x y : Nat, x < 16 → y ≤ r → u.panel.leftAt x y = some (s.fb.read (16 * y + x))) ∧
      (n < rowStart (fun _ => 0) 296 + 8 → u.panel.refreshing = false) ∧ u.panel.ram = [] ∧ u.panel.shown = []

/-- R217: PACK of an image of a supported size, in every lifecycle state: ended at once with `Ok`, no request made; the whole end
state. -/
def Obligations.PackCompletes : Prop :=
  ∀ (s : State) (fb : Memory), s.flags.active = false →
    packImage s.cfg.portraitClearOnNonblack s.args.imgW s.args.imgH s.img = some fb →
    exec .pack s = .next { s with
      pc := ⟨.idle, 0⟩, rs := [], res := { s.res with errCode := .ok }, flags := { s.flags with fbValid := true }, fb := fb,
      cnt := packedCounters s.args.imgW s.cnt }

/-- R222: every bit of a packed framebuffer, in the landscape orientation and in both polarities of the portrait one. -/
def Obligations.PackClosedForm : Prop :=
  ∀ (flag : Bool) (img : Image), ∃ land port : Memory,
    packImage flag 128 296 img = some land ∧ packImage flag 296 128 img = some port ∧
    ∀ x y : Nat, x < 128 → y < 296 →
      (fbBit land x y = false ↔ blackAt img x y = true) ∧
      (flag = true → (fbBit port x y = false ↔ blackAt img (295 - y) x = false)) ∧
      (flag = false → (fbBit port x y = false ↔ blackAt img (295 - y) x = true))

/-- R223, R244: every other size is rejected with UnsupportedInput, in PACK and in DISPLAY, before any request; `fb_valid` is then 0
and `FB` reads all 0xFF; `life` is unchanged. The order of filling and checking, the counter and the ghost panel are the model's
(log entries 7, 8). -/
def Obligations.PackRejectsOtherSizes : Prop :=
  ∀ (s : State) (op : HostOp), s.flags.active = false → (op = .pack ∨ (op = .display ∧ s.life = .ready)) →
    (s.args.imgW, s.args.imgH) ≠ (128, 296) → (s.args.imgW, s.args.imgH) ≠ (296, 128) →
    ∃ m : Memory, exec op.instr s = .next { s with
      pc := ⟨.idle, 0⟩, rs := [], res := { s.res with errCode := .unsupportedInput, errOp := op.code },
      flags := { s.flags with fbValid := false, fault := true }, fb := m, cnt := { s.cnt with a := 4736 },
      panel := s.panel.forgetAll } ∧
      ∀ a : Nat, a < 4736 → m.read a = 0xFF#8

/-- R201: POWER_DOWN in `Ready`, no request failing: accepted, and after its nine requests ended in `Sleeping`; the whole end state
but for the ghost panel, whose RAM is unknown (log entry 9) and whose glass is as before. -/
def Obligations.PowerDownCompletes : Prop :=
  ∀ s : State, s.flags.active = false → s.life = .ready → Quiet s 9 →
    ∃ (t : State) (p : Panel), exec .powerDown s = .next t ∧ t.flags.active = true ∧ t.hist = s.hist ∧
      run 9 t = .next { s with
        life := .sleeping, pc := ⟨.idle, 0⟩, rs := [], res := { s.res with errCode := .ok },
        pins := { s.pins with dc := .driven .high, cs := .driven .high }, tmp := { s.tmp with tByte := 0x01#8 },
        hist := s.hist ++ packetEvents s.cfg.opDeepSleepMode [0x01#8] ++ [⟨.delay 2000, .ok⟩], panel := p } ∧
      p.ram = [] ∧ p.shown = s.panel.shown

/-- R202: TEARDOWN in `Uninitialized`, `Sleeping` or `Faulted`, no request failing: accepted, and after its seven requests ended in
`Released`, every pin undriven and nothing owned; the whole end state, with panel RAM unknown since `RST` went low (log entry
22). -/
def Obligations.TeardownCompletes : Prop :=
  ∀ s : State, s.flags.active = false → s.life ∈ [Life.uninitialized, .sleeping, .faulted] → Quiet s 7 →
    ∃ t : State, exec .teardown s = .next t ∧ t.flags.active = true ∧ t.hist = s.hist ∧
      run 7 t = .next { s with
        life := .released, pc := ⟨.idle, 0⟩, rs := [], res := { s.res with errCode := .ok },
        pins := { rst := .undriven, dc := .undriven, cs := .undriven, ownRst := false, ownDc := false, ownCs := false,
                  ownBusy := false, ownSpi := false },
        hist := s.hist ++ [⟨.pinWrite .rst .low, .ok⟩, ⟨.pinWrite .dc .low, .ok⟩, ⟨.release .rst, .ok⟩, ⟨.release .dc, .ok⟩,
          ⟨.release .cs, .ok⟩, ⟨.release .busy, .ok⟩, ⟨.release .spi, .ok⟩], panel := s.panel.forgetRam }

/-! ## Panel packets -/

/-- R92 to R94, R25: each of the sixteen packet instructions, no request failing: the whole next state but for the ghost panel. One
command frame with the configured command byte and one data frame per data byte are sent, in order; `dc` and `cs` are as the last
frame left them; `t_byte` is the last byte; the shadow registers change for the four address packets only. -/
def Obligations.PacketTransmits : Prop :=
  ∀ (i : Instr) (k : PacketKind) (data : List Byte) (s : State), i.packetParts = some (k, data) →
    Quiet s (4 * (data.length + 1)) →
    ∃ (w : Shadow) (p : Panel), exec i s = .next { s with
      hist := s.hist ++ packetEvents (commandByte s.cfg k) data,
      pins := { s.pins with dc := .driven (if data = [] then .low else .high), cs := .driven .high },
      tmp := { s.tmp with tByte := data.getLast?.getD (commandByte s.cfg k) }, shadow := w, panel := p } ∧
      (∀ a b : Byte, i = .pktSetRamXStartEnd a b → w = { s.shadow with winXs := a, winXe := b }) ∧
      (∀ a b d e : Byte, i = .pktSetRamYStartEnd a b d e → w = { s.shadow with winYs := b ++ a, winYe := e ++ d }) ∧
      (∀ a : Byte, i = .pktSetRamXCounter a → w = { s.shadow with curX := a }) ∧
      (∀ a b : Byte, i = .pktSetRamYCounter a b → w = { s.shadow with curY := b ++ a }) ∧
      (k ∉ [PacketKind.setRamXStartEnd, .setRamYStartEnd, .setRamXCounter, .setRamYCounter] → w = s.shadow) ∧
      (k ≠ .masterActivation → p.shown = s.panel.shown)

/-- R131, R243: a packet of which request number `n` is the first to fail: the requests before it are made, it is recorded as failed,
none after it is made, and TransportFailure is raised. (With no host operation running, `err_op` is kept and `life` becomes
`Faulted`: log entry 12.) -/
def Obligations.PacketFailureStops : Prop :=
  ∀ (i : Instr) (k : PacketKind) (data : List Byte) (s : State) (n : Nat), i.packetParts = some (k, data) → Idle s →
    n < 4 * (data.length + 1) → Quiet s n → s.failsAt (s.hist.length + n) = true →
    ∃ (t : State) (e : Event), exec i s = .next t ∧ (packetEvents (commandByte s.cfg k) data)[n]? = some e ∧
      t.hist = s.hist ++ (packetEvents (commandByte s.cfg k) data).take n ++ [⟨e.req, .fail⟩] ∧
      t.res = { errCode := .transportFailure, errOp := s.res.errOp, errInfo := errInfoOf e.req } ∧ t.life = .faulted ∧
      t.flags = { s.flags with fault := true } ∧ Idle t ∧ t.fb = s.fb ∧ t.cnt = s.cnt ∧ SameInputs s t

/-- R72 (1), (2): a write-RAM packet of 16 bytes, no request failing. Inside the conditions on window and cursor its bytes go to the
cursor's row from the cursor's column on, and every other byte of panel RAM stays; outside them panel RAM is unknown. Derived: R72
is the spec's marked reference model of the panel. -/
def Obligations.WriteRamPacketEffect : Prop :=
  ∀ (s : State) (data : List Byte), data.length = 16 → Quiet s 68 →
    ∃ t : State, exec (.pktWriteRam data) s = .next t ∧
      ((s.shadow.winValid = true ∧ s.shadow.curValid = true ∧ s.panel.cursorFresh = true ∧ s.panel.asleep = false ∧
          s.panel.refreshing = false ∧
          s.shadow.winXs.toNat ≤ s.shadow.curX.toNat ∧ s.shadow.curX.toNat + 15 ≤ s.shadow.winXe.toNat ∧
          s.shadow.winYs.toNat ≤ s.shadow.curY.toNat ∧ s.shadow.curY.toNat ≤ s.shadow.winYe.toNat ∧
          s.shadow.winXe.toNat < 16 ∧ s.shadow.winYe.toNat < 296) →
        ∀ x y : Nat, x < 16 → t.panel.ramAt x y =
          if y = s.shadow.curY.toNat ∧ s.shadow.curX.toNat ≤ x then data[x - s.shadow.curX.toNat]? else s.panel.ramAt x y) ∧
      (¬ (s.shadow.winValid = true ∧ s.shadow.curValid = true ∧ s.panel.cursorFresh = true ∧ s.panel.asleep = false ∧
          s.panel.refreshing = false ∧
          s.shadow.winXs.toNat ≤ s.shadow.curX.toNat ∧ s.shadow.curX.toNat + 15 ≤ s.shadow.winXe.toNat ∧
          s.shadow.winYs.toNat ≤ s.shadow.curY.toNat ∧ s.shadow.curY.toNat ≤ s.shadow.winYe.toNat ∧
          s.shadow.winXe.toNat < 16 ∧ s.shadow.winYe.toNat < 296) →
        ∀ x y : Nat, t.panel.ramAt x y = none) ∧
      t.panel.cursorFresh = false ∧ t.panel.shown = s.panel.shown
end

