-- ==== Sys2Proof/Laws/Memory.lean ====
section
/-! SUPPORT. The laws of memory: read after write, and that every operation keeps the canonical form. -/

namespace Sys2Proof.Machine

/-! ### Rising addresses -/

/-- Every listed address is at least `a` (a bound for the tail of a rising list). -/
def Memory.above (a : Nat) (m : Memory) : Prop := ∀ c ∈ m, a < c.1

theorem Memory.rising_cons (c : Host.Cell) (m : Memory) : Memory.rising (c :: m) = true ↔ m.above c.1 ∧ m.rising = true := by
  induction m generalizing c with
  | nil => simp [Memory.rising, Memory.above]
  | cons d ds ih =>
    simp only [Memory.rising, Bool.and_eq_true, decide_eq_true_eq]
    constructor
    · rintro ⟨h1, h2⟩
      refine ⟨fun e he => ?_, h2⟩
      rcases List.mem_cons.mp he with rfl | he
      · exact h1
      · exact Nat.lt_trans h1 ((ih d).mp h2 |>.1 e he)
    · rintro ⟨h1, h2⟩
      exact ⟨h1 d List.mem_cons_self, h2⟩

theorem Memory.lookup_none_of_above (m : Memory) (a : Nat) (h : m.above a) : m.lookup a = none := by
  induction m with
  | nil => rfl
  | cons c cs ih =>
    have hc := h c List.mem_cons_self
    simp only [Memory.lookup]
    rw [if_neg (by omega), ih (fun d hd => h d (List.mem_cons_of_mem _ hd))]

/-! ### insert -/

theorem Memory.mem_insert (m : Memory) (a : Nat) (b : Byte) (c : Host.Cell) (h : c ∈ m.insert a b) : c = (a, b) ∨ c ∈ m := by
  induction m with
  | nil => simpa [Memory.insert] using h
  | cons d ds ih =>
    simp only [Memory.insert] at h
    split at h
    · simpa using h
    · split at h
      · rcases List.mem_cons.mp h with h | h
        · exact .inl h
        · exact .inr (List.mem_cons_of_mem _ h)
      · rcases List.mem_cons.mp h with h | h
        · exact .inr (h ▸ List.mem_cons_self)
        · exact (ih h).imp id (List.mem_cons_of_mem _)

theorem Memory.insert_rising (m : Memory) (a : Nat) (b : Byte) (h : m.rising = true) : (m.insert a b).rising = true := by
  induction m with
  | nil => rfl
  | cons d ds ih =>
    have hd := (Memory.rising_cons d ds).mp h
    simp only [Memory.insert]
    split
    · rename_i hlt
      refine (Memory.rising_cons _ _).mpr ⟨fun c hc => ?_, h⟩
      rcases List.mem_cons.mp hc with rfl | hc
      · exact hlt
      · exact Nat.lt_trans hlt (hd.1 c hc)
    · split
      · rename_i heq
        exact (Memory.rising_cons _ _).mpr ⟨heq ▸ hd.1, hd.2⟩
      · refine (Memory.rising_cons _ _).mpr ⟨fun c hc => ?_, ih hd.2⟩
        rcases Memory.mem_insert _ _ _ _ hc with rfl | hc
        · show d.1 < a; omega
        · exact hd.1 c hc

/-- Reading the address a byte was listed at. -/
@[simp] theorem Memory.lookup_insert_self (m : Memory) (a : Nat) (b : Byte) : (m.insert a b).lookup a = some b := by
  induction m with
  | nil => simp [Memory.insert, Memory.lookup]
  | cons d ds ih =>
    simp only [Memory.insert]
    split
    · simp [Memory.lookup]
    · split
      · simp [Memory.lookup]
      · rename_i h1 h2
        simp [Memory.lookup, h2, ih]

/-- Listing a byte leaves every other address alone. -/
theorem Memory.lookup_insert_ne (m : Memory) (a x : Nat) (b : Byte) (h : x ≠ a) : (m.insert a b).lookup x = m.lookup x := by
  have h' : ¬ a = x := fun e => h e.symm
  induction m with
  | nil => simp [Memory.insert, Memory.lookup, h']
  | cons d ds ih =>
    simp only [Memory.insert]
    split
    · simp [Memory.lookup, h']
    · split
      · rename_i _ h2
        have : ¬ d.1 = x := by omega
        simp [Memory.lookup, h', this]
      · simp [Memory.lookup, ih]

/-! ### erase -/

theorem Memory.mem_erase (m : Memory) (a : Nat) (c : Host.Cell) (h : c ∈ m.erase a) : c ∈ m := by
  induction m with
  | nil => simp [Memory.erase] at h
  | cons d ds ih =>
    simp only [Memory.erase] at h
    split at h
    · exact List.mem_cons_of_mem _ h
    · rcases List.mem_cons.mp h with h | h
      · exact h ▸ List.mem_cons_self
      · exact List.mem_cons_of_mem _ (ih h)

theorem Memory.erase_rising (m : Memory) (a : Nat) (h : m.rising = true) : (m.erase a).rising = true := by
  induction m with
  | nil => rfl
  | cons d ds ih =>
    have hd := (Memory.rising_cons d ds).mp h
    simp only [Memory.erase]
    split
    · exact hd.2
    · exact (Memory.rising_cons _ _).mpr ⟨fun c hc => hd.1 c (Memory.mem_erase _ _ _ hc), ih hd.2⟩

/-- After an erase the address is unlisted, in a rising memory. -/
theorem Memory.lookup_erase_self (m : Memory) (a : Nat) (h : m.rising = true) : (m.erase a).lookup a = none := by
  induction m with
  | nil => rfl
  | cons d ds ih =>
    have hd := (Memory.rising_cons d ds).mp h
    simp only [Memory.erase]
    split
    · rename_i heq
      exact Memory.lookup_none_of_above _ _ (heq ▸ hd.1)
    · rename_i hne
      simp [Memory.lookup, hne, ih hd.2]

theorem Memory.lookup_erase_ne (m : Memory) (a x : Nat) (h : x ≠ a) : (m.erase a).lookup x = m.lookup x := by
  induction m with
  | nil => rfl
  | cons d ds ih =>
    simp only [Memory.erase]
    split
    · have : ¬ d.1 = x := by omega
      simp [Memory.lookup, this]
    · simp [Memory.lookup, ih]

/-! ### Keeping the cells of some addresses -/

theorem Memory.rising_filter (m : Memory) (q : Host.Cell → Bool) (h : m.rising = true) : Memory.rising (m.filter q) = true := by
  induction m with
  | nil => rfl
  | cons d ds ih =>
    have hd := (Memory.rising_cons d ds).mp h
    rw [List.filter_cons]
    split
    · exact (Memory.rising_cons _ _).mpr ⟨fun c hc => hd.1 c (List.mem_of_mem_filter hc), ih hd.2⟩
    · exact ih hd.2

theorem Memory.lookup_filter (m : Memory) (q : Nat → Bool) (a : Nat) :
    Memory.lookup (m.filter (fun c => q c.1)) a = if q a then m.lookup a else none := by
  induction m with
  | nil => simp [Memory.lookup]
  | cons d ds ih =>
    rw [List.filter_cons]
    by_cases hd : d.1 = a
    · subst hd
      cases hq : q d.1 <;> simp [Memory.lookup, hq, ih]
    · cases hq : q d.1 <;> simp [Memory.lookup, hd, ih]

/-! ### FB: read and write -/

/-- A read after a write to the same place gives the value written. -/
theorem Memory.read_write_self (m : Memory) (a : Nat) (b : Byte) (h : m.rising = true) : (m.write a b).read a = b := by
  simp only [Memory.read, Memory.write]
  split
  · rename_i hb
    rw [Memory.lookup_erase_self m a h, hb]; rfl
  · simp

/-- A write leaves every other place alone. -/
theorem Memory.read_write_ne (m : Memory) (a x : Nat) (b : Byte) (h : x ≠ a) : (m.write a b).read x = m.read x := by
  simp only [Memory.read, Memory.write]
  split
  · rw [Memory.lookup_erase_ne m a x h]
  · rw [Memory.lookup_insert_ne m a x b h]

theorem Memory.wf_rising (m : Memory) (h : m.wf = true) : m.rising = true := by
  simp only [Memory.wf, Bool.and_eq_true] at h; exact h.1

/-- A write inside the address space keeps the canonical form. -/
theorem Memory.write_wf (m : Memory) (a : Nat) (b : Byte) (ha : a < Config.fbBytes) (h : m.wf = true) :
    (m.write a b).wf = true := by
  simp only [Memory.wf, Bool.and_eq_true, List.all_eq_true, decide_eq_true_eq] at h ⊢
  obtain ⟨hr, hall⟩ := h
  simp only [Memory.write]
  split
  · exact ⟨Memory.erase_rising m a hr, fun c hc => hall c (Memory.mem_erase _ _ _ hc)⟩
  · rename_i hb
    refine ⟨Memory.insert_rising m a b hr, fun c hc => ?_⟩
    rcases Memory.mem_insert _ _ _ _ hc with rfl | hc
    · exact ⟨ha, hb⟩
    · exact hall c hc

theorem Memory.filled_wf : Memory.wf [] = true := rfl

/-- `FB` at reset is in canonical form. -/
theorem State.reset_fb_wf : State.reset.fb.wf = true := rfl

end Sys2Proof.Machine
end

