-- ==== Sys2Proof/Laws/State.lean ====
section
/-! SUPPORT. One lemma per field per update of State: what an update sets, and what it leaves. -/

namespace Sys2Proof.Machine

variable (s : State)

/-! ### setLife -/

@[simp] theorem State.setLife_cfg (v : Life) : (s.setLife v).cfg = s.cfg := rfl
@[simp] theorem State.setLife_life (v : Life) : (s.setLife v).life = v := rfl
@[simp] theorem State.setLife_args (v : Life) : (s.setLife v).args = s.args := rfl
@[simp] theorem State.setLife_cnt (v : Life) : (s.setLife v).cnt = s.cnt := rfl
@[simp] theorem State.setLife_tmp (v : Life) : (s.setLife v).tmp = s.tmp := rfl
@[simp] theorem State.setLife_shadow (v : Life) : (s.setLife v).shadow = s.shadow := rfl
@[simp] theorem State.setLife_pc (v : Life) : (s.setLife v).pc = s.pc := rfl
@[simp] theorem State.setLife_rs (v : Life) : (s.setLife v).rs = s.rs := rfl
@[simp] theorem State.setLife_flags (v : Life) : (s.setLife v).flags = s.flags := rfl
@[simp] theorem State.setLife_res (v : Life) : (s.setLife v).res = s.res := rfl
@[simp] theorem State.setLife_pins (v : Life) : (s.setLife v).pins = s.pins := rfl
@[simp] theorem State.setLife_fb (v : Life) : (s.setLife v).fb = s.fb := rfl
@[simp] theorem State.setLife_hist (v : Life) : (s.setLife v).hist = s.hist := rfl
@[simp] theorem State.setLife_panel (v : Life) : (s.setLife v).panel = s.panel := rfl
@[simp] theorem State.setLife_img (v : Life) : (s.setLife v).img = s.img := rfl
@[simp] theorem State.setLife_env (v : Life) : (s.setLife v).env = s.env := rfl
@[simp] theorem State.setLife_inbox (v : Life) : (s.setLife v).inbox = s.inbox := rfl

/-! ### setArgs -/

@[simp] theorem State.setArgs_cfg (v : Operands) : (s.setArgs v).cfg = s.cfg := rfl
@[simp] theorem State.setArgs_life (v : Operands) : (s.setArgs v).life = s.life := rfl
@[simp] theorem State.setArgs_args (v : Operands) : (s.setArgs v).args = v := rfl
@[simp] theorem State.setArgs_cnt (v : Operands) : (s.setArgs v).cnt = s.cnt := rfl
@[simp] theorem State.setArgs_tmp (v : Operands) : (s.setArgs v).tmp = s.tmp := rfl
@[simp] theorem State.setArgs_shadow (v : Operands) : (s.setArgs v).shadow = s.shadow := rfl
@[simp] theorem State.setArgs_pc (v : Operands) : (s.setArgs v).pc = s.pc := rfl
@[simp] theorem State.setArgs_rs (v : Operands) : (s.setArgs v).rs = s.rs := rfl
@[simp] theorem State.setArgs_flags (v : Operands) : (s.setArgs v).flags = s.flags := rfl
@[simp] theorem State.setArgs_res (v : Operands) : (s.setArgs v).res = s.res := rfl
@[simp] theorem State.setArgs_pins (v : Operands) : (s.setArgs v).pins = s.pins := rfl
@[simp] theorem State.setArgs_fb (v : Operands) : (s.setArgs v).fb = s.fb := rfl
@[simp] theorem State.setArgs_hist (v : Operands) : (s.setArgs v).hist = s.hist := rfl
@[simp] theorem State.setArgs_panel (v : Operands) : (s.setArgs v).panel = s.panel := rfl
@[simp] theorem State.setArgs_img (v : Operands) : (s.setArgs v).img = s.img := rfl
@[simp] theorem State.setArgs_env (v : Operands) : (s.setArgs v).env = s.env := rfl
@[simp] theorem State.setArgs_inbox (v : Operands) : (s.setArgs v).inbox = s.inbox := rfl

/-! ### setCnt -/

@[simp] theorem State.setCnt_cfg (v : Counters) : (s.setCnt v).cfg = s.cfg := rfl
@[simp] theorem State.setCnt_life (v : Counters) : (s.setCnt v).life = s.life := rfl
@[simp] theorem State.setCnt_args (v : Counters) : (s.setCnt v).args = s.args := rfl
@[simp] theorem State.setCnt_cnt (v : Counters) : (s.setCnt v).cnt = v := rfl
@[simp] theorem State.setCnt_tmp (v : Counters) : (s.setCnt v).tmp = s.tmp := rfl
@[simp] theorem State.setCnt_shadow (v : Counters) : (s.setCnt v).shadow = s.shadow := rfl
@[simp] theorem State.setCnt_pc (v : Counters) : (s.setCnt v).pc = s.pc := rfl
@[simp] theorem State.setCnt_rs (v : Counters) : (s.setCnt v).rs = s.rs := rfl
@[simp] theorem State.setCnt_flags (v : Counters) : (s.setCnt v).flags = s.flags := rfl
@[simp] theorem State.setCnt_res (v : Counters) : (s.setCnt v).res = s.res := rfl
@[simp] theorem State.setCnt_pins (v : Counters) : (s.setCnt v).pins = s.pins := rfl
@[simp] theorem State.setCnt_fb (v : Counters) : (s.setCnt v).fb = s.fb := rfl
@[simp] theorem State.setCnt_hist (v : Counters) : (s.setCnt v).hist = s.hist := rfl
@[simp] theorem State.setCnt_panel (v : Counters) : (s.setCnt v).panel = s.panel := rfl
@[simp] theorem State.setCnt_img (v : Counters) : (s.setCnt v).img = s.img := rfl
@[simp] theorem State.setCnt_env (v : Counters) : (s.setCnt v).env = s.env := rfl
@[simp] theorem State.setCnt_inbox (v : Counters) : (s.setCnt v).inbox = s.inbox := rfl

/-! ### setTmp -/

@[simp] theorem State.setTmp_cfg (v : Params) : (s.setTmp v).cfg = s.cfg := rfl
@[simp] theorem State.setTmp_life (v : Params) : (s.setTmp v).life = s.life := rfl
@[simp] theorem State.setTmp_args (v : Params) : (s.setTmp v).args = s.args := rfl
@[simp] theorem State.setTmp_cnt (v : Params) : (s.setTmp v).cnt = s.cnt := rfl
@[simp] theorem State.setTmp_tmp (v : Params) : (s.setTmp v).tmp = v := rfl
@[simp] theorem State.setTmp_shadow (v : Params) : (s.setTmp v).shadow = s.shadow := rfl
@[simp] theorem State.setTmp_pc (v : Params) : (s.setTmp v).pc = s.pc := rfl
@[simp] theorem State.setTmp_rs (v : Params) : (s.setTmp v).rs = s.rs := rfl
@[simp] theorem State.setTmp_flags (v : Params) : (s.setTmp v).flags = s.flags := rfl
@[simp] theorem State.setTmp_res (v : Params) : (s.setTmp v).res = s.res := rfl
@[simp] theorem State.setTmp_pins (v : Params) : (s.setTmp v).pins = s.pins := rfl
@[simp] theorem State.setTmp_fb (v : Params) : (s.setTmp v).fb = s.fb := rfl
@[simp] theorem State.setTmp_hist (v : Params) : (s.setTmp v).hist = s.hist := rfl
@[simp] theorem State.setTmp_panel (v : Params) : (s.setTmp v).panel = s.panel := rfl
@[simp] theorem State.setTmp_img (v : Params) : (s.setTmp v).img = s.img := rfl
@[simp] theorem State.setTmp_env (v : Params) : (s.setTmp v).env = s.env := rfl
@[simp] theorem State.setTmp_inbox (v : Params) : (s.setTmp v).inbox = s.inbox := rfl

/-! ### setShadow -/

@[simp] theorem State.setShadow_cfg (v : Shadow) : (s.setShadow v).cfg = s.cfg := rfl
@[simp] theorem State.setShadow_life (v : Shadow) : (s.setShadow v).life = s.life := rfl
@[simp] theorem State.setShadow_args (v : Shadow) : (s.setShadow v).args = s.args := rfl
@[simp] theorem State.setShadow_cnt (v : Shadow) : (s.setShadow v).cnt = s.cnt := rfl
@[simp] theorem State.setShadow_tmp (v : Shadow) : (s.setShadow v).tmp = s.tmp := rfl
@[simp] theorem State.setShadow_shadow (v : Shadow) : (s.setShadow v).shadow = v := rfl
@[simp] theorem State.setShadow_pc (v : Shadow) : (s.setShadow v).pc = s.pc := rfl
@[simp] theorem State.setShadow_rs (v : Shadow) : (s.setShadow v).rs = s.rs := rfl
@[simp] theorem State.setShadow_flags (v : Shadow) : (s.setShadow v).flags = s.flags := rfl
@[simp] theorem State.setShadow_res (v : Shadow) : (s.setShadow v).res = s.res := rfl
@[simp] theorem State.setShadow_pins (v : Shadow) : (s.setShadow v).pins = s.pins := rfl
@[simp] theorem State.setShadow_fb (v : Shadow) : (s.setShadow v).fb = s.fb := rfl
@[simp] theorem State.setShadow_hist (v : Shadow) : (s.setShadow v).hist = s.hist := rfl
@[simp] theorem State.setShadow_panel (v : Shadow) : (s.setShadow v).panel = s.panel := rfl
@[simp] theorem State.setShadow_img (v : Shadow) : (s.setShadow v).img = s.img := rfl
@[simp] theorem State.setShadow_env (v : Shadow) : (s.setShadow v).env = s.env := rfl
@[simp] theorem State.setShadow_inbox (v : Shadow) : (s.setShadow v).inbox = s.inbox := rfl

/-! ### setPc -/

@[simp] theorem State.setPc_cfg (v : PC) : (s.setPc v).cfg = s.cfg := rfl
@[simp] theorem State.setPc_life (v : PC) : (s.setPc v).life = s.life := rfl
@[simp] theorem State.setPc_args (v : PC) : (s.setPc v).args = s.args := rfl
@[simp] theorem State.setPc_cnt (v : PC) : (s.setPc v).cnt = s.cnt := rfl
@[simp] theorem State.setPc_tmp (v : PC) : (s.setPc v).tmp = s.tmp := rfl
@[simp] theorem State.setPc_shadow (v : PC) : (s.setPc v).shadow = s.shadow := rfl
@[simp] theorem State.setPc_pc (v : PC) : (s.setPc v).pc = v := rfl
@[simp] theorem State.setPc_rs (v : PC) : (s.setPc v).rs = s.rs := rfl
@[simp] theorem State.setPc_flags (v : PC) : (s.setPc v).flags = s.flags := rfl
@[simp] theorem State.setPc_res (v : PC) : (s.setPc v).res = s.res := rfl
@[simp] theorem State.setPc_pins (v : PC) : (s.setPc v).pins = s.pins := rfl
@[simp] theorem State.setPc_fb (v : PC) : (s.setPc v).fb = s.fb := rfl
@[simp] theorem State.setPc_hist (v : PC) : (s.setPc v).hist = s.hist := rfl
@[simp] theorem State.setPc_panel (v : PC) : (s.setPc v).panel = s.panel := rfl
@[simp] theorem State.setPc_img (v : PC) : (s.setPc v).img = s.img := rfl
@[simp] theorem State.setPc_env (v : PC) : (s.setPc v).env = s.env := rfl
@[simp] theorem State.setPc_inbox (v : PC) : (s.setPc v).inbox = s.inbox := rfl

/-! ### setRs -/

@[simp] theorem State.setRs_cfg (v : List PC) : (s.setRs v).cfg = s.cfg := rfl
@[simp] theorem State.setRs_life (v : List PC) : (s.setRs v).life = s.life := rfl
@[simp] theorem State.setRs_args (v : List PC) : (s.setRs v).args = s.args := rfl
@[simp] theorem State.setRs_cnt (v : List PC) : (s.setRs v).cnt = s.cnt := rfl
@[simp] theorem State.setRs_tmp (v : List PC) : (s.setRs v).tmp = s.tmp := rfl
@[simp] theorem State.setRs_shadow (v : List PC) : (s.setRs v).shadow = s.shadow := rfl
@[simp] theorem State.setRs_pc (v : List PC) : (s.setRs v).pc = s.pc := rfl
@[simp] theorem State.setRs_rs (v : List PC) : (s.setRs v).rs = v := rfl
@[simp] theorem State.setRs_flags (v : List PC) : (s.setRs v).flags = s.flags := rfl
@[simp] theorem State.setRs_res (v : List PC) : (s.setRs v).res = s.res := rfl
@[simp] theorem State.setRs_pins (v : List PC) : (s.setRs v).pins = s.pins := rfl
@[simp] theorem State.setRs_fb (v : List PC) : (s.setRs v).fb = s.fb := rfl
@[simp] theorem State.setRs_hist (v : List PC) : (s.setRs v).hist = s.hist := rfl
@[simp] theorem State.setRs_panel (v : List PC) : (s.setRs v).panel = s.panel := rfl
@[simp] theorem State.setRs_img (v : List PC) : (s.setRs v).img = s.img := rfl
@[simp] theorem State.setRs_env (v : List PC) : (s.setRs v).env = s.env := rfl
@[simp] theorem State.setRs_inbox (v : List PC) : (s.setRs v).inbox = s.inbox := rfl

/-! ### setFlags -/

@[simp] theorem State.setFlags_cfg (v : Flags) : (s.setFlags v).cfg = s.cfg := rfl
@[simp] theorem State.setFlags_life (v : Flags) : (s.setFlags v).life = s.life := rfl
@[simp] theorem State.setFlags_args (v : Flags) : (s.setFlags v).args = s.args := rfl
@[simp] theorem State.setFlags_cnt (v : Flags) : (s.setFlags v).cnt = s.cnt := rfl
@[simp] theorem State.setFlags_tmp (v : Flags) : (s.setFlags v).tmp = s.tmp := rfl
@[simp] theorem State.setFlags_shadow (v : Flags) : (s.setFlags v).shadow = s.shadow := rfl
@[simp] theorem State.setFlags_pc (v : Flags) : (s.setFlags v).pc = s.pc := rfl
@[simp] theorem State.setFlags_rs (v : Flags) : (s.setFlags v).rs = s.rs := rfl
@[simp] theorem State.setFlags_flags (v : Flags) : (s.setFlags v).flags = v := rfl
@[simp] theorem State.setFlags_res (v : Flags) : (s.setFlags v).res = s.res := rfl
@[simp] theorem State.setFlags_pins (v : Flags) : (s.setFlags v).pins = s.pins := rfl
@[simp] theorem State.setFlags_fb (v : Flags) : (s.setFlags v).fb = s.fb := rfl
@[simp] theorem State.setFlags_hist (v : Flags) : (s.setFlags v).hist = s.hist := rfl
@[simp] theorem State.setFlags_panel (v : Flags) : (s.setFlags v).panel = s.panel := rfl
@[simp] theorem State.setFlags_img (v : Flags) : (s.setFlags v).img = s.img := rfl
@[simp] theorem State.setFlags_env (v : Flags) : (s.setFlags v).env = s.env := rfl
@[simp] theorem State.setFlags_inbox (v : Flags) : (s.setFlags v).inbox = s.inbox := rfl

/-! ### setRes -/

@[simp] theorem State.setRes_cfg (v : Results) : (s.setRes v).cfg = s.cfg := rfl
@[simp] theorem State.setRes_life (v : Results) : (s.setRes v).life = s.life := rfl
@[simp] theorem State.setRes_args (v : Results) : (s.setRes v).args = s.args := rfl
@[simp] theorem State.setRes_cnt (v : Results) : (s.setRes v).cnt = s.cnt := rfl
@[simp] theorem State.setRes_tmp (v : Results) : (s.setRes v).tmp = s.tmp := rfl
@[simp] theorem State.setRes_shadow (v : Results) : (s.setRes v).shadow = s.shadow := rfl
@[simp] theorem State.setRes_pc (v : Results) : (s.setRes v).pc = s.pc := rfl
@[simp] theorem State.setRes_rs (v : Results) : (s.setRes v).rs = s.rs := rfl
@[simp] theorem State.setRes_flags (v : Results) : (s.setRes v).flags = s.flags := rfl
@[simp] theorem State.setRes_res (v : Results) : (s.setRes v).res = v := rfl
@[simp] theorem State.setRes_pins (v : Results) : (s.setRes v).pins = s.pins := rfl
@[simp] theorem State.setRes_fb (v : Results) : (s.setRes v).fb = s.fb := rfl
@[simp] theorem State.setRes_hist (v : Results) : (s.setRes v).hist = s.hist := rfl
@[simp] theorem State.setRes_panel (v : Results) : (s.setRes v).panel = s.panel := rfl
@[simp] theorem State.setRes_img (v : Results) : (s.setRes v).img = s.img := rfl
@[simp] theorem State.setRes_env (v : Results) : (s.setRes v).env = s.env := rfl
@[simp] theorem State.setRes_inbox (v : Results) : (s.setRes v).inbox = s.inbox := rfl

/-! ### setPins -/

@[simp] theorem State.setPins_cfg (v : Pins) : (s.setPins v).cfg = s.cfg := rfl
@[simp] theorem State.setPins_life (v : Pins) : (s.setPins v).life = s.life := rfl
@[simp] theorem State.setPins_args (v : Pins) : (s.setPins v).args = s.args := rfl
@[simp] theorem State.setPins_cnt (v : Pins) : (s.setPins v).cnt = s.cnt := rfl
@[simp] theorem State.setPins_tmp (v : Pins) : (s.setPins v).tmp = s.tmp := rfl
@[simp] theorem State.setPins_shadow (v : Pins) : (s.setPins v).shadow = s.shadow := rfl
@[simp] theorem State.setPins_pc (v : Pins) : (s.setPins v).pc = s.pc := rfl
@[simp] theorem State.setPins_rs (v : Pins) : (s.setPins v).rs = s.rs := rfl
@[simp] theorem State.setPins_flags (v : Pins) : (s.setPins v).flags = s.flags := rfl
@[simp] theorem State.setPins_res (v : Pins) : (s.setPins v).res = s.res := rfl
@[simp] theorem State.setPins_pins (v : Pins) : (s.setPins v).pins = v := rfl
@[simp] theorem State.setPins_fb (v : Pins) : (s.setPins v).fb = s.fb := rfl
@[simp] theorem State.setPins_hist (v : Pins) : (s.setPins v).hist = s.hist := rfl
@[simp] theorem State.setPins_panel (v : Pins) : (s.setPins v).panel = s.panel := rfl
@[simp] theorem State.setPins_img (v : Pins) : (s.setPins v).img = s.img := rfl
@[simp] theorem State.setPins_env (v : Pins) : (s.setPins v).env = s.env := rfl
@[simp] theorem State.setPins_inbox (v : Pins) : (s.setPins v).inbox = s.inbox := rfl

/-! ### setFb -/

@[simp] theorem State.setFb_cfg (v : Memory) : (s.setFb v).cfg = s.cfg := rfl
@[simp] theorem State.setFb_life (v : Memory) : (s.setFb v).life = s.life := rfl
@[simp] theorem State.setFb_args (v : Memory) : (s.setFb v).args = s.args := rfl
@[simp] theorem State.setFb_cnt (v : Memory) : (s.setFb v).cnt = s.cnt := rfl
@[simp] theorem State.setFb_tmp (v : Memory) : (s.setFb v).tmp = s.tmp := rfl
@[simp] theorem State.setFb_shadow (v : Memory) : (s.setFb v).shadow = s.shadow := rfl
@[simp] theorem State.setFb_pc (v : Memory) : (s.setFb v).pc = s.pc := rfl
@[simp] theorem State.setFb_rs (v : Memory) : (s.setFb v).rs = s.rs := rfl
@[simp] theorem State.setFb_flags (v : Memory) : (s.setFb v).flags = s.flags := rfl
@[simp] theorem State.setFb_res (v : Memory) : (s.setFb v).res = s.res := rfl
@[simp] theorem State.setFb_pins (v : Memory) : (s.setFb v).pins = s.pins := rfl
@[simp] theorem State.setFb_fb (v : Memory) : (s.setFb v).fb = v := rfl
@[simp] theorem State.setFb_hist (v : Memory) : (s.setFb v).hist = s.hist := rfl
@[simp] theorem State.setFb_panel (v : Memory) : (s.setFb v).panel = s.panel := rfl
@[simp] theorem State.setFb_img (v : Memory) : (s.setFb v).img = s.img := rfl
@[simp] theorem State.setFb_env (v : Memory) : (s.setFb v).env = s.env := rfl
@[simp] theorem State.setFb_inbox (v : Memory) : (s.setFb v).inbox = s.inbox := rfl

/-! ### setHist -/

@[simp] theorem State.setHist_cfg (v : List Event) : (s.setHist v).cfg = s.cfg := rfl
@[simp] theorem State.setHist_life (v : List Event) : (s.setHist v).life = s.life := rfl
@[simp] theorem State.setHist_args (v : List Event) : (s.setHist v).args = s.args := rfl
@[simp] theorem State.setHist_cnt (v : List Event) : (s.setHist v).cnt = s.cnt := rfl
@[simp] theorem State.setHist_tmp (v : List Event) : (s.setHist v).tmp = s.tmp := rfl
@[simp] theorem State.setHist_shadow (v : List Event) : (s.setHist v).shadow = s.shadow := rfl
@[simp] theorem State.setHist_pc (v : List Event) : (s.setHist v).pc = s.pc := rfl
@[simp] theorem State.setHist_rs (v : List Event) : (s.setHist v).rs = s.rs := rfl
@[simp] theorem State.setHist_flags (v : List Event) : (s.setHist v).flags = s.flags := rfl
@[simp] theorem State.setHist_res (v : List Event) : (s.setHist v).res = s.res := rfl
@[simp] theorem State.setHist_pins (v : List Event) : (s.setHist v).pins = s.pins := rfl
@[simp] theorem State.setHist_fb (v : List Event) : (s.setHist v).fb = s.fb := rfl
@[simp] theorem State.setHist_hist (v : List Event) : (s.setHist v).hist = v := rfl
@[simp] theorem State.setHist_panel (v : List Event) : (s.setHist v).panel = s.panel := rfl
@[simp] theorem State.setHist_img (v : List Event) : (s.setHist v).img = s.img := rfl
@[simp] theorem State.setHist_env (v : List Event) : (s.setHist v).env = s.env := rfl
@[simp] theorem State.setHist_inbox (v : List Event) : (s.setHist v).inbox = s.inbox := rfl

/-! ### setPanel -/

@[simp] theorem State.setPanel_cfg (v : Panel) : (s.setPanel v).cfg = s.cfg := rfl
@[simp] theorem State.setPanel_life (v : Panel) : (s.setPanel v).life = s.life := rfl
@[simp] theorem State.setPanel_args (v : Panel) : (s.setPanel v).args = s.args := rfl
@[simp] theorem State.setPanel_cnt (v : Panel) : (s.setPanel v).cnt = s.cnt := rfl
@[simp] theorem State.setPanel_tmp (v : Panel) : (s.setPanel v).tmp = s.tmp := rfl
@[simp] theorem State.setPanel_shadow (v : Panel) : (s.setPanel v).shadow = s.shadow := rfl
@[simp] theorem State.setPanel_pc (v : Panel) : (s.setPanel v).pc = s.pc := rfl
@[simp] theorem State.setPanel_rs (v : Panel) : (s.setPanel v).rs = s.rs := rfl
@[simp] theorem State.setPanel_flags (v : Panel) : (s.setPanel v).flags = s.flags := rfl
@[simp] theorem State.setPanel_res (v : Panel) : (s.setPanel v).res = s.res := rfl
@[simp] theorem State.setPanel_pins (v : Panel) : (s.setPanel v).pins = s.pins := rfl
@[simp] theorem State.setPanel_fb (v : Panel) : (s.setPanel v).fb = s.fb := rfl
@[simp] theorem State.setPanel_hist (v : Panel) : (s.setPanel v).hist = s.hist := rfl
@[simp] theorem State.setPanel_panel (v : Panel) : (s.setPanel v).panel = v := rfl
@[simp] theorem State.setPanel_img (v : Panel) : (s.setPanel v).img = s.img := rfl
@[simp] theorem State.setPanel_env (v : Panel) : (s.setPanel v).env = s.env := rfl
@[simp] theorem State.setPanel_inbox (v : Panel) : (s.setPanel v).inbox = s.inbox := rfl

/-! ### setImg -/

@[simp] theorem State.setImg_cfg (v : Image) : (s.setImg v).cfg = s.cfg := rfl
@[simp] theorem State.setImg_life (v : Image) : (s.setImg v).life = s.life := rfl
@[simp] theorem State.setImg_args (v : Image) : (s.setImg v).args = s.args := rfl
@[simp] theorem State.setImg_cnt (v : Image) : (s.setImg v).cnt = s.cnt := rfl
@[simp] theorem State.setImg_tmp (v : Image) : (s.setImg v).tmp = s.tmp := rfl
@[simp] theorem State.setImg_shadow (v : Image) : (s.setImg v).shadow = s.shadow := rfl
@[simp] theorem State.setImg_pc (v : Image) : (s.setImg v).pc = s.pc := rfl
@[simp] theorem State.setImg_rs (v : Image) : (s.setImg v).rs = s.rs := rfl
@[simp] theorem State.setImg_flags (v : Image) : (s.setImg v).flags = s.flags := rfl
@[simp] theorem State.setImg_res (v : Image) : (s.setImg v).res = s.res := rfl
@[simp] theorem State.setImg_pins (v : Image) : (s.setImg v).pins = s.pins := rfl
@[simp] theorem State.setImg_fb (v : Image) : (s.setImg v).fb = s.fb := rfl
@[simp] theorem State.setImg_hist (v : Image) : (s.setImg v).hist = s.hist := rfl
@[simp] theorem State.setImg_panel (v : Image) : (s.setImg v).panel = s.panel := rfl
@[simp] theorem State.setImg_img (v : Image) : (s.setImg v).img = v := rfl
@[simp] theorem State.setImg_env (v : Image) : (s.setImg v).env = s.env := rfl
@[simp] theorem State.setImg_inbox (v : Image) : (s.setImg v).inbox = s.inbox := rfl

/-! ### setInbox -/

@[simp] theorem State.setInbox_cfg (v : List Pending) : (s.setInbox v).cfg = s.cfg := rfl
@[simp] theorem State.setInbox_life (v : List Pending) : (s.setInbox v).life = s.life := rfl
@[simp] theorem State.setInbox_args (v : List Pending) : (s.setInbox v).args = s.args := rfl
@[simp] theorem State.setInbox_cnt (v : List Pending) : (s.setInbox v).cnt = s.cnt := rfl
@[simp] theorem State.setInbox_tmp (v : List Pending) : (s.setInbox v).tmp = s.tmp := rfl
@[simp] theorem State.setInbox_shadow (v : List Pending) : (s.setInbox v).shadow = s.shadow := rfl
@[simp] theorem State.setInbox_pc (v : List Pending) : (s.setInbox v).pc = s.pc := rfl
@[simp] theorem State.setInbox_rs (v : List Pending) : (s.setInbox v).rs = s.rs := rfl
@[simp] theorem State.setInbox_flags (v : List Pending) : (s.setInbox v).flags = s.flags := rfl
@[simp] theorem State.setInbox_res (v : List Pending) : (s.setInbox v).res = s.res := rfl
@[simp] theorem State.setInbox_pins (v : List Pending) : (s.setInbox v).pins = s.pins := rfl
@[simp] theorem State.setInbox_fb (v : List Pending) : (s.setInbox v).fb = s.fb := rfl
@[simp] theorem State.setInbox_hist (v : List Pending) : (s.setInbox v).hist = s.hist := rfl
@[simp] theorem State.setInbox_panel (v : List Pending) : (s.setInbox v).panel = s.panel := rfl
@[simp] theorem State.setInbox_img (v : List Pending) : (s.setInbox v).img = s.img := rfl
@[simp] theorem State.setInbox_env (v : List Pending) : (s.setInbox v).env = s.env := rfl
@[simp] theorem State.setInbox_inbox (v : List Pending) : (s.setInbox v).inbox = v := rfl

/-! ### The derived updates -/

@[simp] theorem State.advance_pc : s.advance.pc = ⟨s.pc.routine, s.pc.step + 1⟩ := rfl
@[simp] theorem State.goto_pc (n : Nat) : (s.goto n).pc = ⟨s.pc.routine, n⟩ := rfl
@[simp] theorem State.call_pc (r : Routine) : (s.call r).pc = ⟨r, 0⟩ := rfl
@[simp] theorem State.call_rs (r : Routine) : (s.call r).rs = ⟨s.pc.routine, s.pc.step + 1⟩ :: s.rs := rfl
@[simp] theorem State.setByte_tmp (b : Byte) : (s.setByte b).tmp = { s.tmp with tByte := b } := rfl
@[simp] theorem State.record_hist (r : Request) (a : Reply) : (s.record r a).hist = s.hist ++ [⟨r, a⟩] := rfl
@[simp] theorem State.callCommand_pc (k : PacketKind) : (s.callCommand k).pc = ⟨.sendCommand, 0⟩ := rfl
@[simp] theorem State.callCommand_rs (k : PacketKind) : (s.callCommand k).rs = ⟨s.pc.routine, s.pc.step + 1⟩ :: s.rs := rfl
@[simp] theorem State.callCommand_tmp (k : PacketKind) :
    (s.callCommand k).tmp = { s.tmp with tByte := commandByte s.cfg k } := rfl
@[simp] theorem State.callCommand_panel (k : PacketKind) : (s.callCommand k).panel = s.panel.begin k s.shadow := rfl
@[simp] theorem State.callData_pc (b : Byte) : (s.callData b).pc = ⟨.sendData, 0⟩ := rfl
@[simp] theorem State.callData_rs (b : Byte) : (s.callData b).rs = ⟨s.pc.routine, s.pc.step + 1⟩ :: s.rs := rfl
@[simp] theorem State.callData_tmp (b : Byte) : (s.callData b).tmp = { s.tmp with tByte := b } := rfl
@[simp] theorem State.finish_pc : s.finish.pc = ⟨.idle, 0⟩ := rfl
@[simp] theorem State.finish_flags : s.finish.flags = { s.flags with active := false } := rfl
@[simp] theorem State.finish_res : s.finish.res = { s.res with errCode := .ok } := rfl

@[simp] theorem State.advance_cfg : s.advance.cfg = s.cfg := rfl
@[simp] theorem State.advance_life : s.advance.life = s.life := rfl
@[simp] theorem State.advance_args : s.advance.args = s.args := rfl
@[simp] theorem State.advance_cnt : s.advance.cnt = s.cnt := rfl
@[simp] theorem State.advance_tmp : s.advance.tmp = s.tmp := rfl
@[simp] theorem State.advance_shadow : s.advance.shadow = s.shadow := rfl
@[simp] theorem State.advance_rs : s.advance.rs = s.rs := rfl
@[simp] theorem State.advance_flags : s.advance.flags = s.flags := rfl
@[simp] theorem State.advance_res : s.advance.res = s.res := rfl
@[simp] theorem State.advance_pins : s.advance.pins = s.pins := rfl
@[simp] theorem State.advance_fb : s.advance.fb = s.fb := rfl
@[simp] theorem State.advance_hist : s.advance.hist = s.hist := rfl
@[simp] theorem State.advance_panel : s.advance.panel = s.panel := rfl
@[simp] theorem State.advance_img : s.advance.img = s.img := rfl
@[simp] theorem State.advance_env : s.advance.env = s.env := rfl
@[simp] theorem State.advance_inbox : s.advance.inbox = s.inbox := rfl

@[simp] theorem State.goto_cfg (n : Nat) : (s.goto n).cfg = s.cfg := rfl
@[simp] theorem State.goto_life (n : Nat) : (s.goto n).life = s.life := rfl
@[simp] theorem State.goto_args (n : Nat) : (s.goto n).args = s.args := rfl
@[simp] theorem State.goto_cnt (n : Nat) : (s.goto n).cnt = s.cnt := rfl
@[simp] theorem State.goto_tmp (n : Nat) : (s.goto n).tmp = s.tmp := rfl
@[simp] theorem State.goto_shadow (n : Nat) : (s.goto n).shadow = s.shadow := rfl
@[simp] theorem State.goto_rs (n : Nat) : (s.goto n).rs = s.rs := rfl
@[simp] theorem State.goto_flags (n : Nat) : (s.goto n).flags = s.flags := rfl
@[simp] theorem State.goto_res (n : Nat) : (s.goto n).res = s.res := rfl
@[simp] theorem State.goto_pins (n : Nat) : (s.goto n).pins = s.pins := rfl
@[simp] theorem State.goto_fb (n : Nat) : (s.goto n).fb = s.fb := rfl
@[simp] theorem State.goto_hist (n : Nat) : (s.goto n).hist = s.hist := rfl
@[simp] theorem State.goto_panel (n : Nat) : (s.goto n).panel = s.panel := rfl
@[simp] theorem State.goto_img (n : Nat) : (s.goto n).img = s.img := rfl
@[simp] theorem State.goto_env (n : Nat) : (s.goto n).env = s.env := rfl
@[simp] theorem State.goto_inbox (n : Nat) : (s.goto n).inbox = s.inbox := rfl

@[simp] theorem State.call_cfg (r : Routine) : (s.call r).cfg = s.cfg := rfl
@[simp] theorem State.call_life (r : Routine) : (s.call r).life = s.life := rfl
@[simp] theorem State.call_args (r : Routine) : (s.call r).args = s.args := rfl
@[simp] theorem State.call_cnt (r : Routine) : (s.call r).cnt = s.cnt := rfl
@[simp] theorem State.call_tmp (r : Routine) : (s.call r).tmp = s.tmp := rfl
@[simp] theorem State.call_shadow (r : Routine) : (s.call r).shadow = s.shadow := rfl
@[simp] theorem State.call_flags (r : Routine) : (s.call r).flags = s.flags := rfl
@[simp] theorem State.call_res (r : Routine) : (s.call r).res = s.res := rfl
@[simp] theorem State.call_pins (r : Routine) : (s.call r).pins = s.pins := rfl
@[simp] theorem State.call_fb (r : Routine) : (s.call r).fb = s.fb := rfl
@[simp] theorem State.call_hist (r : Routine) : (s.call r).hist = s.hist := rfl
@[simp] theorem State.call_panel (r : Routine) : (s.call r).panel = s.panel := rfl
@[simp] theorem State.call_img (r : Routine) : (s.call r).img = s.img := rfl
@[simp] theorem State.call_env (r : Routine) : (s.call r).env = s.env := rfl
@[simp] theorem State.call_inbox (r : Routine) : (s.call r).inbox = s.inbox := rfl

@[simp] theorem State.setByte_cfg (b : Byte) : (s.setByte b).cfg = s.cfg := rfl
@[simp] theorem State.setByte_life (b : Byte) : (s.setByte b).life = s.life := rfl
@[simp] theorem State.setByte_args (b : Byte) : (s.setByte b).args = s.args := rfl
@[simp] theorem State.setByte_cnt (b : Byte) : (s.setByte b).cnt = s.cnt := rfl
@[simp] theorem State.setByte_shadow (b : Byte) : (s.setByte b).shadow = s.shadow := rfl
@[simp] theorem State.setByte_pc (b : Byte) : (s.setByte b).pc = s.pc := rfl
@[simp] theorem State.setByte_rs (b : Byte) : (s.setByte b).rs = s.rs := rfl
@[simp] theorem State.setByte_flags (b : Byte) : (s.setByte b).flags = s.flags := rfl
@[simp] theorem State.setByte_res (b : Byte) : (s.setByte b).res = s.res := rfl
@[simp] theorem State.setByte_pins (b : Byte) : (s.setByte b).pins = s.pins := rfl
@[simp] theorem State.setByte_fb (b : Byte) : (s.setByte b).fb = s.fb := rfl
@[simp] theorem State.setByte_hist (b : Byte) : (s.setByte b).hist = s.hist := rfl
@[simp] theorem State.setByte_panel (b : Byte) : (s.setByte b).panel = s.panel := rfl
@[simp] theorem State.setByte_img (b : Byte) : (s.setByte b).img = s.img := rfl
@[simp] theorem State.setByte_env (b : Byte) : (s.setByte b).env = s.env := rfl
@[simp] theorem State.setByte_inbox (b : Byte) : (s.setByte b).inbox = s.inbox := rfl

@[simp] theorem State.record_cfg (r : Request) (a : Reply) : (s.record r a).cfg = s.cfg := rfl
@[simp] theorem State.record_life (r : Request) (a : Reply) : (s.record r a).life = s.life := rfl
@[simp] theorem State.record_args (r : Request) (a : Reply) : (s.record r a).args = s.args := rfl
@[simp] theorem State.record_cnt (r : Request) (a : Reply) : (s.record r a).cnt = s.cnt := rfl
@[simp] theorem State.record_tmp (r : Request) (a : Reply) : (s.record r a).tmp = s.tmp := rfl
@[simp] theorem State.record_shadow (r : Request) (a : Reply) : (s.record r a).shadow = s.shadow := rfl
@[simp] theorem State.record_pc (r : Request) (a : Reply) : (s.record r a).pc = s.pc := rfl
@[simp] theorem State.record_rs (r : Request) (a : Reply) : (s.record r a).rs = s.rs := rfl
@[simp] theorem State.record_flags (r : Request) (a : Reply) : (s.record r a).flags = s.flags := rfl
@[simp] theorem State.record_res (r : Request) (a : Reply) : (s.record r a).res = s.res := rfl
@[simp] theorem State.record_pins (r : Request) (a : Reply) : (s.record r a).pins = s.pins := rfl
@[simp] theorem State.record_fb (r : Request) (a : Reply) : (s.record r a).fb = s.fb := rfl
@[simp] theorem State.record_panel (r : Request) (a : Reply) : (s.record r a).panel = s.panel := rfl
@[simp] theorem State.record_img (r : Request) (a : Reply) : (s.record r a).img = s.img := rfl
@[simp] theorem State.record_env (r : Request) (a : Reply) : (s.record r a).env = s.env := rfl
@[simp] theorem State.record_inbox (r : Request) (a : Reply) : (s.record r a).inbox = s.inbox := rfl

@[simp] theorem State.callCommand_cfg (k : PacketKind) : (s.callCommand k).cfg = s.cfg := rfl
@[simp] theorem State.callCommand_life (k : PacketKind) : (s.callCommand k).life = s.life := rfl
@[simp] theorem State.callCommand_args (k : PacketKind) : (s.callCommand k).args = s.args := rfl
@[simp] theorem State.callCommand_cnt (k : PacketKind) : (s.callCommand k).cnt = s.cnt := rfl
@[simp] theorem State.callCommand_shadow (k : PacketKind) : (s.callCommand k).shadow = s.shadow := rfl
@[simp] theorem State.callCommand_flags (k : PacketKind) : (s.callCommand k).flags = s.flags := rfl
@[simp] theorem State.callCommand_res (k : PacketKind) : (s.callCommand k).res = s.res := rfl
@[simp] theorem State.callCommand_pins (k : PacketKind) : (s.callCommand k).pins = s.pins := rfl
@[simp] theorem State.callCommand_fb (k : PacketKind) : (s.callCommand k).fb = s.fb := rfl
@[simp] theorem State.callCommand_hist (k : PacketKind) : (s.callCommand k).hist = s.hist := rfl
@[simp] theorem State.callCommand_img (k : PacketKind) : (s.callCommand k).img = s.img := rfl
@[simp] theorem State.callCommand_env (k : PacketKind) : (s.callCommand k).env = s.env := rfl
@[simp] theorem State.callCommand_inbox (k : PacketKind) : (s.callCommand k).inbox = s.inbox := rfl

@[simp] theorem State.callData_cfg (b : Byte) : (s.callData b).cfg = s.cfg := rfl
@[simp] theorem State.callData_life (b : Byte) : (s.callData b).life = s.life := rfl
@[simp] theorem State.callData_args (b : Byte) : (s.callData b).args = s.args := rfl
@[simp] theorem State.callData_cnt (b : Byte) : (s.callData b).cnt = s.cnt := rfl
@[simp] theorem State.callData_shadow (b : Byte) : (s.callData b).shadow = s.shadow := rfl
@[simp] theorem State.callData_flags (b : Byte) : (s.callData b).flags = s.flags := rfl
@[simp] theorem State.callData_res (b : Byte) : (s.callData b).res = s.res := rfl
@[simp] theorem State.callData_pins (b : Byte) : (s.callData b).pins = s.pins := rfl
@[simp] theorem State.callData_fb (b : Byte) : (s.callData b).fb = s.fb := rfl
@[simp] theorem State.callData_hist (b : Byte) : (s.callData b).hist = s.hist := rfl
@[simp] theorem State.callData_panel (b : Byte) : (s.callData b).panel = s.panel := rfl
@[simp] theorem State.callData_img (b : Byte) : (s.callData b).img = s.img := rfl
@[simp] theorem State.callData_env (b : Byte) : (s.callData b).env = s.env := rfl
@[simp] theorem State.callData_inbox (b : Byte) : (s.callData b).inbox = s.inbox := rfl

@[simp] theorem State.finish_cfg : s.finish.cfg = s.cfg := rfl
@[simp] theorem State.finish_life : s.finish.life = s.life := rfl
@[simp] theorem State.finish_args : s.finish.args = s.args := rfl
@[simp] theorem State.finish_cnt : s.finish.cnt = s.cnt := rfl
@[simp] theorem State.finish_tmp : s.finish.tmp = s.tmp := rfl
@[simp] theorem State.finish_shadow : s.finish.shadow = s.shadow := rfl
@[simp] theorem State.finish_rs : s.finish.rs = s.rs := rfl
@[simp] theorem State.finish_pins : s.finish.pins = s.pins := rfl
@[simp] theorem State.finish_fb : s.finish.fb = s.fb := rfl
@[simp] theorem State.finish_hist : s.finish.hist = s.hist := rfl
@[simp] theorem State.finish_panel : s.finish.panel = s.panel := rfl
@[simp] theorem State.finish_img : s.finish.img = s.img := rfl
@[simp] theorem State.finish_env : s.finish.env = s.env := rfl
@[simp] theorem State.finish_inbox : s.finish.inbox = s.inbox := rfl

/-! ### raise (R248): every field after an error -/

variable (c : Cause) (code : Option (BitVec 4))

@[simp] theorem raise_res : (raise c code s).res = resultsAfter c code s.res := rfl
@[simp] theorem raise_flags : (raise c code s).flags = { s.flags with fault := true, active := false } := rfl
@[simp] theorem raise_pc : (raise c code s).pc = ⟨.idle, 0⟩ := rfl
@[simp] theorem raise_rs : (raise c code s).rs = [] := rfl
@[simp] theorem raise_life : (raise c code s).life = lifeAfter c code s.life := rfl
@[simp] theorem raise_panel : (raise c code s).panel = panelAfter c (rowsSent s) s.panel := rfl
@[simp] theorem raise_cfg : (raise c code s).cfg = s.cfg := rfl
@[simp] theorem raise_args : (raise c code s).args = s.args := rfl
@[simp] theorem raise_cnt : (raise c code s).cnt = s.cnt := rfl
@[simp] theorem raise_tmp : (raise c code s).tmp = s.tmp := rfl
@[simp] theorem raise_shadow : (raise c code s).shadow = s.shadow := rfl
@[simp] theorem raise_pins : (raise c code s).pins = s.pins := rfl
@[simp] theorem raise_fb : (raise c code s).fb = s.fb := rfl
@[simp] theorem raise_hist : (raise c code s).hist = s.hist := rfl
@[simp] theorem raise_img : (raise c code s).img = s.img := rfl
@[simp] theorem raise_env : (raise c code s).env = s.env := rfl
@[simp] theorem raise_inbox : (raise c code s).inbox = s.inbox := rfl

end Sys2Proof.Machine
end

