-- ==== Sys2Proof/Laws/Ops.lean ====
section
/-! SUPPORT. What each shared operation can do: requests, pins, the ghost panel. -/

namespace Sys2Proof.Machine

/-! ### Requests (R11, R243) -/

/-- A request that does not fail. -/
theorem ask_ok (r : Request) (s : State) (h : s.failsAt s.hist.length = false) :
    ask r s = .ok ((requestEffect r (s.busyAt s.hist.length) s).record r (okReply r (s.busyAt s.hist.length))) := by
  simp [ask, h]

/-- A request that fails records itself and changes nothing else. -/
theorem ask_failed (r : Request) (s : State) (h : s.failsAt s.hist.length = true) : ask r s = .failed r (s.record r .fail) := by
  simp [ask, h]

/-- All a request can do. -/
theorem ask_cases (r : Request) (s : State) :
    (s.failsAt s.hist.length = false ∧
      ask r s = .ok ((requestEffect r (s.busyAt s.hist.length) s).record r (okReply r (s.busyAt s.hist.length)))) ∨
    (s.failsAt s.hist.length = true ∧ ask r s = .failed r (s.record r .fail)) := by
  cases h : s.failsAt s.hist.length
  · exact .inl ⟨rfl, ask_ok r s h⟩
  · exact .inr ⟨rfl, ask_failed r s h⟩

/-- Without `SHIM_CAN_FAIL` no request fails (R8, U24). -/
theorem State.failsAt_of_cannot (s : State) (n : Nat) (h : s.cfg.shimCanFail = false) : s.failsAt n = false := by
  simp [State.failsAt, h]

/-- A request changes only the pins and `busy_sample`. -/
theorem requestEffect_eq (r : Request) (l : Level) (s : State) :
    requestEffect r l s = (s.setPins (requestEffect r l s).pins).setFlags (requestEffect r l s).flags := by
  cases r <;> rfl

@[simp] theorem requestEffect_pinWrite (p : OutPin) (v l : Level) (s : State) :
    requestEffect (.pinWrite p v) l s = s.setPins (s.pins.drive p v) := rfl
@[simp] theorem requestEffect_pinRead (l : Level) (s : State) :
    requestEffect .pinRead l s = s.setFlags { s.flags with busySample := l.toBool } := rfl
@[simp] theorem requestEffect_spiWrite (b : Byte) (l : Level) (s : State) : requestEffect (.spiWrite b) l s = s := rfl
@[simp] theorem requestEffect_delay (n : Nat) (l : Level) (s : State) : requestEffect (.delay n) l s = s := rfl
@[simp] theorem requestEffect_acquire (x : Resource) (l : Level) (s : State) :
    requestEffect (.acquire x) l s = s.setPins (s.pins.acquire x) := rfl
@[simp] theorem requestEffect_release (x : Resource) (l : Level) (s : State) :
    requestEffect (.release x) l s = s.setPins (s.pins.release x) := rfl

@[simp] theorem requestEffect_hist (r : Request) (l : Level) (s : State) : (requestEffect r l s).hist = s.hist := by cases r <;> rfl
@[simp] theorem requestEffect_env (r : Request) (l : Level) (s : State) : (requestEffect r l s).env = s.env := by cases r <;> rfl
@[simp] theorem requestEffect_cfg (r : Request) (l : Level) (s : State) : (requestEffect r l s).cfg = s.cfg := by cases r <;> rfl
@[simp] theorem requestEffect_pc (r : Request) (l : Level) (s : State) : (requestEffect r l s).pc = s.pc := by cases r <;> rfl
@[simp] theorem requestEffect_rs (r : Request) (l : Level) (s : State) : (requestEffect r l s).rs = s.rs := by cases r <;> rfl
@[simp] theorem requestEffect_tmp (r : Request) (l : Level) (s : State) : (requestEffect r l s).tmp = s.tmp := by cases r <;> rfl
@[simp] theorem requestEffect_cnt (r : Request) (l : Level) (s : State) : (requestEffect r l s).cnt = s.cnt := by cases r <;> rfl
@[simp] theorem requestEffect_shadow (r : Request) (l : Level) (s : State) : (requestEffect r l s).shadow = s.shadow := by
  cases r <;> rfl
@[simp] theorem requestEffect_life (r : Request) (l : Level) (s : State) : (requestEffect r l s).life = s.life := by cases r <;> rfl
@[simp] theorem requestEffect_args (r : Request) (l : Level) (s : State) : (requestEffect r l s).args = s.args := by cases r <;> rfl
@[simp] theorem requestEffect_fb (r : Request) (l : Level) (s : State) : (requestEffect r l s).fb = s.fb := by cases r <;> rfl
@[simp] theorem requestEffect_res (r : Request) (l : Level) (s : State) : (requestEffect r l s).res = s.res := by cases r <;> rfl
@[simp] theorem requestEffect_panel (r : Request) (l : Level) (s : State) : (requestEffect r l s).panel = s.panel := by
  cases r <;> rfl
@[simp] theorem requestEffect_img (r : Request) (l : Level) (s : State) : (requestEffect r l s).img = s.img := by cases r <;> rfl
@[simp] theorem requestEffect_inbox (r : Request) (l : Level) (s : State) : (requestEffect r l s).inbox = s.inbox := by
  cases r <;> rfl
@[simp] theorem requestEffect_active (r : Request) (l : Level) (s : State) :
    (requestEffect r l s).flags.active = s.flags.active := by cases r <;> rfl
@[simp] theorem requestEffect_fault (r : Request) (l : Level) (s : State) :
    (requestEffect r l s).flags.fault = s.flags.fault := by cases r <;> rfl
@[simp] theorem requestEffect_fbValid (r : Request) (l : Level) (s : State) :
    (requestEffect r l s).flags.fbValid = s.flags.fbValid := by cases r <;> rfl

@[simp] theorem Asked.ok_bind (s : State) (f : State → Asked) : (Asked.ok s).bind f = f s := rfl
@[simp] theorem Asked.failed_bind (r : Request) (s : State) (f : State → Asked) : (Asked.failed r s).bind f = .failed r s := rfl

/-- The environment and the configuration fix how a request is answered. -/
theorem State.failsAt_congr {s t : State} (he : t.env = s.env) (hc : t.cfg = s.cfg) (n : Nat) : t.failsAt n = s.failsAt n := by
  simp [State.failsAt, he, hc]

theorem State.busyAt_congr {s t : State} (he : t.env = s.env) (n : Nat) : t.busyAt n = s.busyAt n := by
  simp [State.busyAt, he]

/-! ### Operand registers (R9, R12, R23) -/

/-- A written operand register holds a value of its width. -/
theorem operandValue_lt (c : Config) (v : Nat) : operandValue c v < 2 ^ c.argw := Nat.mod_lt _ (Nat.two_pow_pos _)

/-- A value of the register's width is kept whole. -/
theorem operandValue_of_lt (c : Config) (v : Nat) (h : v < 2 ^ c.argw) : operandValue c v = v := Nat.mod_eq_of_lt h

/-- An operand's byte-column, whatever the operand's width (R12, D4). -/
theorem xb_low16 (x : Nat) : (xb (low16 x)).toNat = x / 8 % 256 := by
  simp only [xb, low16, BitVec.toNat_setWidth, BitVec.toNat_ushiftRight, BitVec.toNat_ofNat, Nat.shiftRight_eq_div_pow]; omega

/-! ### The ghost panel: RAM and glass stay rising -/

theorem Panel.meet_ram_rising (p : Panel) (k : PacketKind) (h : p.ram.rising = true) : (p.meet k).ram.rising = true := by
  simp only [Panel.meet]; split
  · rfl
  · exact h

@[simp] theorem Panel.meet_shown (p : Panel) (k : PacketKind) : (p.meet k).shown = p.shown := by
  simp only [Panel.meet]; split <;> rfl

/-- No refresh under way: a command changes nothing by its arrival alone. -/
theorem Panel.meet_idle (p : Panel) (k : PacketKind) (h : p.refreshing = false) : p.meet k = p := by simp [Panel.meet, h]

theorem Panel.enter_ram_rising (p : Panel) (k : PacketKind) (w : Shadow) (h : p.ram.rising = true) :
    (p.enter k w).ram.rising = true := by
  cases k <;> simp only [Panel.enter] <;> try exact h
  · split
    · exact h
    · rfl
  · rfl

theorem Panel.enter_shown_rising (p : Panel) (k : PacketKind) (w : Shadow) (h : p.shown.rising = true) :
    (p.enter k w).shown.rising = true := by
  cases k <;> simp only [Panel.enter] <;> try exact h
  · rfl
  · split <;> exact h

theorem Panel.begin_ram_rising (p : Panel) (k : PacketKind) (w : Shadow) (h : p.ram.rising = true) :
    (p.begin k w).ram.rising = true := Panel.enter_ram_rising _ k w (Panel.meet_ram_rising p k h)

theorem Panel.begin_shown_rising (p : Panel) (k : PacketKind) (w : Shadow) (h : p.shown.rising = true) :
    (p.begin k w).shown.rising = true := Panel.enter_shown_rising _ k w (by rw [Panel.meet_shown]; exact h)

theorem Panel.data_ram_rising (p : Panel) (w : Shadow) (b : Byte) (h : p.ram.rising = true) : (p.data w b).ram.rising = true := by
  simp only [Panel.data]
  split
  · split
    · exact Memory.insert_rising _ _ _ h
    · rfl
  · exact h

@[simp] theorem Panel.data_shown (p : Panel) (w : Shadow) (b : Byte) : (p.data w b).shown = p.shown := by
  simp only [Panel.data]
  split
  · split <;> rfl
  · rfl

@[simp] theorem Panel.data_sending (p : Panel) (w : Shadow) (b : Byte) : (p.data w b).sending = p.sending := by
  simp only [Panel.data]
  split
  · split <;> rfl
  · rfl

theorem Panel.windowSent_ram_rising (p : Panel) (w : Shadow) (h : p.ram.rising = true) : (p.windowSent w).ram.rising = true := by
  simp only [Panel.windowSent]; split
  · exact h
  · rfl

theorem Panel.cursorSent_ram_rising (p : Panel) (w : Shadow) (h : p.ram.rising = true) : (p.cursorSent w).ram.rising = true := by
  simp only [Panel.cursorSent]; split
  · exact h
  · rfl

@[simp] theorem Panel.windowSent_shown (p : Panel) (w : Shadow) : (p.windowSent w).shown = p.shown := by
  simp only [Panel.windowSent]; split <;> rfl

@[simp] theorem Panel.cursorSent_shown (p : Panel) (w : Shadow) : (p.cursorSent w).shown = p.shown := by
  simp only [Panel.cursorSent]; split <;> rfl

/-- The rows left read as panel RAM did; no other row is left. -/
theorem Panel.failed_leftAt (p : Panel) (rows xb y : Nat) (hx : xb < 16) :
    (p.failed rows).leftAt xb y = if y < rows then p.ramAt xb y else none := by
  have hk : decide (16 * y + xb < 16 * rows) = decide (y < rows) := by
    rw [decide_eq_decide]; omega
  simp only [Panel.failed, Panel.leftAt, Panel.ramAt]
  rw [Memory.lookup_filter p.ram (fun a => decide (a < 16 * rows)), hk]
  by_cases hy : y < rows <;> simp [hy]

@[simp] theorem Panel.failed_ram (p : Panel) (rows : Nat) : (p.failed rows).ram = [] := rfl
@[simp] theorem Panel.failed_shown (p : Panel) (rows : Nat) : (p.failed rows).shown = [] := rfl
@[simp] theorem Panel.forgetAll_left (p : Panel) : p.forgetAll.left = p.left := rfl
@[simp] theorem Panel.forgetRam_left (p : Panel) : p.forgetRam.left = [] := rfl
@[simp] theorem Panel.begin_left (p : Panel) (k : PacketKind) (w : Shadow) : (p.begin k w).left = [] := rfl

@[simp] theorem Panel.data_left (p : Panel) (w : Shadow) (b : Byte) : (p.data w b).left = p.left := by
  simp only [Panel.data]
  split
  · split <;> rfl
  · rfl

/-- All an error can do to the ghost panel. -/
theorem panelAfter_cases (c : Cause) (rows : Nat) (p : Panel) :
    panelAfter c rows p = p ∨ panelAfter c rows p = p.forgetAll ∨ panelAfter c rows p = p.failed rows := by
  cases c
  case illegalOperation => exact .inl rfl
  case resourceUnavailable | unsupportedInput | invalidState => exact .inr (.inl rfl)
  case transportFailure | hardwareNeverIdle => exact .inr (.inr rfl)

theorem panelAfter_ram_rising (c : Cause) (rows : Nat) (p : Panel) (h : p.ram.rising = true) :
    (panelAfter c rows p).ram.rising = true := by
  rcases panelAfter_cases c rows p with e | e | e <;> rw [e] <;> first | exact h | rfl

theorem panelAfter_shown_rising (c : Cause) (rows : Nat) (p : Panel) (h : p.shown.rising = true) :
    (panelAfter c rows p).shown.rising = true := by
  rcases panelAfter_cases c rows p with e | e | e <;> rw [e] <;> first | exact h | rfl

theorem panelAfter_left_rising (c : Cause) (rows : Nat) (p : Panel) (h : p.ram.rising = true) (hl : p.left.rising = true) :
    (panelAfter c rows p).left.rising = true := by
  rcases panelAfter_cases c rows p with e | e | e <;> rw [e]
  · exact hl
  · exact hl
  · exact Memory.rising_filter _ _ h

end Sys2Proof.Machine
end

