-- ==== Sys2Proof/Laws/Packer.lean ====
section
/-! SUPPORT. The packer writes inside FB and keeps its canonical form (R61, R224). -/

namespace Sys2Proof.Machine

theorem clearBit_wf (fb : Memory) (a : Nat) (m : Byte) (ha : a < Config.fbBytes) (h : fb.wf = true) :
    (clearBit fb a m).wf = true := Memory.write_wf _ _ _ ha h

/-- CLEARBIT reads back as the byte with the mask's bits cleared. -/
theorem clearBit_read_self (fb : Memory) (a : Nat) (m : Byte) (h : fb.rising = true) :
    (clearBit fb a m).read a = fb.read a &&& ~~~m := Memory.read_write_self _ _ _ h

theorem clearBit_read_ne (fb : Memory) (a x : Nat) (m : Byte) (h : x ≠ a) : (clearBit fb a m).read x = fb.read x :=
  Memory.read_write_ne _ _ _ _ h

/-- A fold over a range keeps what each of its steps keeps. -/
theorem foldl_range_keeps {α : Type} (P : α → Prop) (f : α → Nat → α) (n : Nat) (x : α) (hx : P x)
    (hf : ∀ y k, k < n → P y → P (f y k)) : P ((List.range n).foldl f x) := by
  induction n with
  | zero => simpa using hx
  | succ n ih =>
    rw [List.range_succ, List.foldl_append]
    exact hf _ n (Nat.lt_succ_self n) (ih (fun y k hk => hf y k (Nat.lt_succ_of_lt hk)))

theorem landscapePixel_wf (img : Image) (y x : Nat) (fb : Memory) (hy : y < 296) (hx : x < 128) (h : fb.wf = true) :
    (landscapePixel img y fb x).wf = true := by
  unfold landscapePixel
  split
  · exact clearBit_wf _ _ _ (by simp only [Config.fbBytes, Config.width]; omega) h
  · exact h

theorem packLandscape_wf (img : Image) : (packLandscape img).wf = true :=
  foldl_range_keeps (fun m => Memory.wf m = true) _ _ _ rfl fun _ y hy h =>
    foldl_range_keeps (fun m => Memory.wf m = true) _ _ _ h fun fb x hx h => landscapePixel_wf img y x fb hy hx h

theorem portraitPixel_wf (flag : Bool) (img : Image) (y x : Nat) (fb : Memory) (hy : y < 128) (hx : x < 296)
    (h : fb.wf = true) : (portraitPixel flag img y fb x).wf = true := by
  unfold portraitPixel
  split
  · exact clearBit_wf _ _ _ (by simp only [Config.fbBytes, Config.width, Config.height]; omega) h
  · exact h

theorem packPortrait_wf (flag : Bool) (img : Image) : (packPortrait flag img).wf = true :=
  foldl_range_keeps (fun m => Memory.wf m = true) _ _ _ rfl fun _ y hy h =>
    foldl_range_keeps (fun m => Memory.wf m = true) _ _ _ h fun fb x hx h => portraitPixel_wf flag img y x fb hy hx h

/-- A packed framebuffer is in canonical form. -/
theorem packImage_wf (flag : Bool) (w h : Nat) (img : Image) (fb : Memory) (hp : packImage flag w h img = some fb) :
    fb.wf = true := by
  unfold packImage at hp
  split at hp
  · cases hp; exact packLandscape_wf img
  · split at hp
    · cases hp; exact packPortrait_wf flag img
    · cases hp

end Sys2Proof.Machine
end

