-- ==== Sys2Proof/Laws/Packets.lean ====
section
/-! SUPPORT. What sending a frame and a packet does when no request fails. -/

namespace Sys2Proof.Machine

/-- The state after a frame none of whose requests failed (R92). -/
def afterFrame (dc : Level) (b : Byte) (s : State) : State :=
  ((s.setByte b).setPins { s.pins with dc := .driven dc, cs := .driven .high }).setHist
    (s.hist ++ Safety.frameEvents ⟨dc, b⟩)

theorem sendFrame_ok (dc : Level) (b : Byte) (s : State) (h : Safety.Quiet s 4) : sendFrame dc b s = .ok (afterFrame dc b s) := by
  have h0 := h 0 (by decide)
  have h1 := h 1 (by decide)
  have h2 := h 2 (by decide)
  have h3 := h 3 (by decide)
  simp only [Nat.add_zero] at h0
  unfold sendFrame
  rw [ask_ok _ _ (by simpa [State.failsAt] using h0)]
  simp only [Asked.ok_bind]
  rw [ask_ok _ _ (by simpa [State.failsAt] using h1)]
  simp only [Asked.ok_bind]
  rw [ask_ok _ _ (by simpa [State.failsAt] using h2)]
  simp only [Asked.ok_bind]
  rw [ask_ok _ _ (by simpa [State.failsAt] using h3)]
  simp [afterFrame, Safety.frameEvents, requestEffect, State.record, State.setHist, State.setPins, State.setByte, State.setTmp,
    Pins.drive, okReply]

/-- A packet all of whose frames are sent is a next state. -/
theorem transmit_ok (k : PacketKind) (data : List Byte) (s t : State) (h : sendPacket k data s = .ok t) :
    transmit k data s = .next t := by simp [transmit, transmitted, h]

/-- A packet that meets a failing request raises TransportFailure there (R243). -/
theorem transmit_failed (k : PacketKind) (data : List Byte) (s t : State) (q : Request) (h : sendPacket k data s = .failed q t) :
    transmit k data s = .next (raise (.transportFailure q) t.issuedCode t) := by simp [transmit, transmitted, h]

/-- Every packet instruction's meaning is the transmission of its parts. -/
theorem exec_packet (i : Instr) (k : PacketKind) (data : List Byte) (s : State) (h : i.packetParts = some (k, data)) :
    exec i s = transmit k data s := by
  cases i <;> simp only [Instr.packetParts, Option.some.injEq, Prod.mk.injEq, reduceCtorEq] at h <;>
    obtain ⟨rfl, rfl⟩ := h <;> rfl

end Sys2Proof.Machine
end

