-- ==== Sys2Proof/Laws/PerInstr.lean ====
section
/-! SUPPORT. Families of statements about every instruction, one lemma per constructor. -/

namespace Sys2Proof.Laws.CodeShape

/-- The code of a well-formed instruction is either one host operation word or a packet of one command byte and exactly as many
data bytes as R94 lists for it (R93, R94, R97). -/
def Statement (i : Instr) : Prop :=
  i.wf = true → ∀ c, match i.packetParts with
    | none => ∃ op, encode c i = .host op
    | some (k, data) => data.length = dataCount k ∧ encode c i = .packet (commandByte c k :: data)

theorem attach : Statement .attach := fun _ _ => ⟨_, rfl⟩
theorem init : Statement .init := fun _ _ => ⟨_, rfl⟩
theorem setWindow : Statement .setWindow := fun _ _ => ⟨_, rfl⟩
theorem setCursor : Statement .setCursor := fun _ _ => ⟨_, rfl⟩
theorem turnOnDisplay : Statement .turnOnDisplay := fun _ _ => ⟨_, rfl⟩
theorem writeFrame : Statement .writeFrame := fun _ _ => ⟨_, rfl⟩
theorem clear : Statement .clear := fun _ _ => ⟨_, rfl⟩
theorem pack : Statement .pack := fun _ _ => ⟨_, rfl⟩
theorem display : Statement .display := fun _ _ => ⟨_, rfl⟩
theorem powerDown : Statement .powerDown := fun _ _ => ⟨_, rfl⟩
theorem teardown : Statement .teardown := fun _ _ => ⟨_, rfl⟩
theorem reservedB : Statement .reservedB := fun _ _ => ⟨_, rfl⟩
theorem reservedC : Statement .reservedC := fun _ _ => ⟨_, rfl⟩
theorem reservedD : Statement .reservedD := fun _ _ => ⟨_, rfl⟩
theorem reservedE : Statement .reservedE := fun _ _ => ⟨_, rfl⟩
theorem reservedF : Statement .reservedF := fun _ _ => ⟨_, rfl⟩
theorem pktDriverOutputControl (d0 d1 d2 : Byte) : Statement (.pktDriverOutputControl d0 d1 d2) := fun _ _ => ⟨rfl, rfl⟩
theorem pktBoosterSoftStart (d0 d1 d2 : Byte) : Statement (.pktBoosterSoftStart d0 d1 d2) := fun _ _ => ⟨rfl, rfl⟩
theorem pktWriteVcom (d0 : Byte) : Statement (.pktWriteVcom d0) := fun _ _ => ⟨rfl, rfl⟩
theorem pktSetDummyLinePeriod (d0 : Byte) : Statement (.pktSetDummyLinePeriod d0) := fun _ _ => ⟨rfl, rfl⟩
theorem pktSetGateTime (d0 : Byte) : Statement (.pktSetGateTime d0) := fun _ _ => ⟨rfl, rfl⟩
theorem pktDataEntryMode (d0 : Byte) : Statement (.pktDataEntryMode d0) := fun _ _ => ⟨rfl, rfl⟩
theorem pktWriteLut (data : List Byte) : Statement (.pktWriteLut data) := fun h _ =>
  ⟨by simpa [Instr.wf, dataCount] using h, rfl⟩
theorem pktSetRamXStartEnd (d0 d1 : Byte) : Statement (.pktSetRamXStartEnd d0 d1) := fun _ _ => ⟨rfl, rfl⟩
theorem pktSetRamYStartEnd (d0 d1 d2 d3 : Byte) : Statement (.pktSetRamYStartEnd d0 d1 d2 d3) := fun _ _ => ⟨rfl, rfl⟩
theorem pktSetRamXCounter (d0 : Byte) : Statement (.pktSetRamXCounter d0) := fun _ _ => ⟨rfl, rfl⟩
theorem pktSetRamYCounter (d0 d1 : Byte) : Statement (.pktSetRamYCounter d0 d1) := fun _ _ => ⟨rfl, rfl⟩
theorem pktDisplayUpdateControl2 (d0 : Byte) : Statement (.pktDisplayUpdateControl2 d0) := fun _ _ => ⟨rfl, rfl⟩
theorem pktMasterActivation : Statement .pktMasterActivation := fun _ _ => ⟨rfl, rfl⟩
theorem pktTerminateFrameRw : Statement .pktTerminateFrameRw := fun _ _ => ⟨rfl, rfl⟩
theorem pktWriteRam (data : List Byte) : Statement (.pktWriteRam data) := fun h _ =>
  ⟨by simpa [Instr.wf, dataCount] using h, rfl⟩
theorem pktDeepSleepMode (d0 : Byte) : Statement (.pktDeepSleepMode d0) := fun _ _ => ⟨rfl, rfl⟩

end Sys2Proof.Laws.CodeShape
end

