-- ==== Sys2Proof/Laws/Sequencer.lean ====
section
/-! SUPPORT. What the sequencer can do: one lemma per kind of line for settle, one per outcome of a request for a step, one per
outcome of the acceptance check for an issue, and the cases of one step of the machine. -/

namespace Sys2Proof.Machine

/-! ### settle -/

theorem settle_ask (n : Nat) (s : State) (r : Request) (h : line s = .ask r) : settle (n + 1) s = .next s := by
  simp only [settle, h]

theorem settle_silent (n : Nat) (s t : State) (h : line s = .silent t) : settle (n + 1) s = settle n t := by
  simp only [settle, h]

theorem settle_ret_nil (n : Nat) (s t : State) (h : line s = .ret t) (hrs : t.rs = []) : settle (n + 1) s = .next t.finish := by
  simp only [settle, h, hrs]

theorem settle_ret_cons (n : Nat) (s t : State) (f : PC) (fs : List PC) (h : line s = .ret t) (hrs : t.rs = f :: fs) :
    settle (n + 1) s = settle n (returnTo f fs t) := by
  simp only [settle, h, hrs]

theorem settle_raise (n : Nat) (s t : State) (c : Cause) (h : line s = .raise c t) :
    settle (n + 1) s = .next (raise c t.issuedCode t) := by
  simp only [settle, h]

theorem settle_stop (n : Nat) (s : State) (f : Fault) (h : line s = .stop f) : settle (n + 1) s = .fault f := by
  simp only [settle, h]

/-- What holds of every next state: whatever holds at the start and is kept by silent lines, returns, the end and errors. -/
theorem settle_keeps (P : State → Prop) (hsilent : ∀ s t, line s = .silent t → P s → P t)
    (hfin : ∀ s t, line s = .ret t → t.rs = [] → P s → P t.finish)
    (hret : ∀ s t f fs, line s = .ret t → t.rs = f :: fs → P s → P (returnTo f fs t))
    (hraise : ∀ s t c, line s = .raise c t → P s → P (raise c t.issuedCode t)) (n : Nat) (s u : State) (hs : P s)
    (h : settle n s = .next u) : P u := by
  induction n generalizing s with
  | zero => cases h; exact hs
  | succ n ih =>
    cases hl : line s with
    | ask r => rw [settle_ask n s r hl] at h; cases h; exact hs
    | silent t => rw [settle_silent n s t hl] at h; exact ih t (hsilent s t hl hs) h
    | ret t =>
      cases hrs : t.rs with
      | nil => rw [settle_ret_nil n s t hl hrs] at h; cases h; exact hfin s t hl hrs hs
      | cons f fs => rw [settle_ret_cons n s t f fs hl hrs] at h; exact ih _ (hret s t f fs hl hrs hs) h
    | raise c t => rw [settle_raise n s t c hl] at h; cases h; exact hraise s t c hl hs
    | stop f => rw [settle_stop n s f hl] at h; cases h

/-! ### One step of a running operation -/

theorem step_active (s : State) (h : s.flags.active = true) : step s = sequencerStep s := by simp [step, h]

/-- The outstanding request is answered `ok`: its effect, its event, the rest of its line, then on to the next request. -/
theorem sequencerStep_ok (s : State) (r : Request) (hl : line s = .ask r) (hf : s.failsAt s.hist.length = false) :
    sequencerStep s = settle settleFuel (answered
      ((requestEffect r (s.busyAt s.hist.length) s).record r (okReply r (s.busyAt s.hist.length)))) := by
  simp [sequencerStep, hl, ask_ok r s hf]

/-- The outstanding request is answered `fail`: TransportFailure (R243). -/
theorem sequencerStep_failed (s : State) (r : Request) (hl : line s = .ask r) (hf : s.failsAt s.hist.length = true) :
    sequencerStep s = .next (raise (.transportFailure r) (s.record r .fail).issuedCode (s.record r .fail)) := by
  simp [sequencerStep, hl, ask_failed r s hf]

theorem sequencerStep_silent (s : State) (h : ∀ r, line s ≠ .ask r) : sequencerStep s = settle settleFuel s := by
  unfold sequencerStep
  cases hl : line s <;> first | rfl | exact absurd hl (h _)

/-! ### Issue (R22, R40, R247) -/

theorem issue_overlapping (op : HostOp) (s : State) (h : s.flags.active = true) : issue op s = .refused .overlappingIssue := by
  simp [issue, h]

theorem issue_rejected (op : HostOp) (s : State) (c : Cause) (h : s.flags.active = false) (ha : acceptance op s = some c) :
    issue op s = .next (raise c (some op.code) s) := by
  simp [issue, h, ha]

theorem issue_accepted (op : HostOp) (s : State) (h : s.flags.active = false) (ha : acceptance op s = none) :
    issue op s = settle settleFuel (accept op s) := by
  simp [issue, h, ha]

/-- Each host operation's meaning is its issue. -/
theorem exec_hostOp (op : HostOp) (s : State) : exec op.instr s = issue op s := by cases op <;> rfl

/-! ### One step of the machine -/

theorem step_idle_empty (s : State) (h : s.flags.active = false) (hi : s.inbox = []) : step s = .next s := by
  simp [step, h, fetch, hi]

theorem step_idle_code (s t : State) (c : Code) (i : Instr) (h : s.flags.active = false) (hf : fetch s = .code c t)
    (hd : decode t.cfg c = .ok i) : step s = exec i t := by
  simp [step, h, hf, hd]

/-- All a step can be. -/
theorem step_cases (s u : State) (h : step s = .next u) :
    (s.flags.active = true ∧ sequencerStep s = .next u) ∨
    (s.flags.active = false ∧ fetch s = .nothing ∧ u = s) ∨
    (s.flags.active = false ∧ ∃ reg v t, fetch s = .write reg v t ∧ hostWrite reg v t = .next u) ∨
    (s.flags.active = false ∧ ∃ img t, fetch s = .image img t ∧ u = t.setImg img) ∨
    (s.flags.active = false ∧ ∃ c t i, fetch s = .code c t ∧ decode t.cfg c = .ok i ∧ exec i t = .next u) := by
  unfold step at h
  cases ha : s.flags.active with
  | true => exact .inl ⟨rfl, by simpa [ha] using h⟩
  | false =>
    simp only [ha, Bool.false_eq_true, if_false] at h
    cases hf : fetch s with
    | nothing => exact .inr (.inl ⟨rfl, rfl, by simpa [hf] using h.symm⟩)
    | write reg v t => exact .inr (.inr (.inl ⟨rfl, reg, v, t, rfl, by simpa [hf] using h⟩))
    | image img t => exact .inr (.inr (.inr (.inl ⟨rfl, img, t, rfl, by simpa [hf] using h.symm⟩)))
    | code c t =>
      simp only [hf] at h
      cases hd : decode t.cfg c with
      | ok i => exact .inr (.inr (.inr (.inr ⟨rfl, c, t, i, rfl, hd, by simpa [hd] using h⟩)))
      | error e => simp [hd] at h

end Sys2Proof.Machine
end

