-- ==== Sys2Proof/Tests/Slice0.lean ====
section
/-! SUPPORT. Tests: expected values are the spec's own vectors (95_test_vectors.md: V-…, P…) or hand calculation from a named
rule; then one witness for each statement that has hypotheses. -/

namespace Sys2Proof.Tests

open Sys2Proof.Machine Sys2Proof.Safety

/-! ## Helpers -/

/-- Whether an outcome is a next state with a property. -/
def nextIs (o : Host.Outcome State Fault Refusal) (p : State → Bool) : Bool :=
  match o with
  | .next t => p t
  | .fault _ => false
  | .refused _ => false

/-- Whether an outcome is a given refusal. -/
def refusedIs (o : Host.Outcome State Fault Refusal) (r : Refusal) : Bool :=
  match o with
  | .next _ => false
  | .fault _ => false
  | .refused q => decide (q = r)

/-- An environment that never fails and in which `BUSY` always has one level. -/
def calm (l : Level) : Env := { script := [], tail := .steady { fails := false, busy := l } }

/-- After reset, in a lifecycle state, with an idle panel that is awake. -/
def at' (l : Life) : State :=
  { State.reset with life := l, env := calm .low, panel := { State.reset.panel with asleep := false, refreshing := false } }

/-- With one pending act. -/
def given (p : Pending) (s : State) : State := { s with inbox := [p] }

/-- The host writes an operation code; one step. -/
def issueIn (code : Nat) (s : State) : Host.Outcome State Fault Refusal := step (given (.write 0 code) s)

/-- A running operation, stopped at a line. -/
def running (pc : PC) (rs : List PC) (s : State) : State :=
  { s with pc := pc, rs := rs, flags := { s.flags with active := true } }

/-- The next request fails. -/
def failing (s : State) : State := { s with env := { script := [], tail := .steady { fails := true, busy := .low } } }

/-- `BUSY` is at `HIGH`. -/
def busy (s : State) : State := { s with env := calm .high }

/-! ## WellFormed: an ill-formed term for each check -/

theorem test_wf_lut_29_bytes :
    Instr.wf (.pktWriteLut (List.replicate 29 0#8)) = false ∧
    decode Config.default (.packet (0x32#8 :: List.replicate 29 0#8)) = .error (.wrongDataCount .writeLut 29) := by decide

theorem test_wf_ram_17_bytes :
    Instr.wf (.pktWriteRam (List.replicate 17 0xFF#8)) = false ∧
    decode Config.default (.packet (0x24#8 :: List.replicate 17 0xFF#8)) = .error (.wrongDataCount .writeRam 17) := by decide

theorem test_wf_accepts :
    Instr.wf (.pktWriteLut (List.replicate 30 0#8)) = true ∧ Instr.wf (.pktWriteRam (List.replicate 16 0#8)) = true := by decide

theorem test_wf_config_limit_zero :
    Config.wf { Config.default with busyTimeoutPolls := some 0 } = false ∧
    Config.wf { Config.default with busyTimeoutPolls := some 1 } = true ∧ Config.default.wf = true := by decide

theorem test_wf_equal_commands :
    Config.distinctCommands { Config.default with opWriteRam := 0x44#8 } = false ∧ Config.default.distinctCommands = true := by
  decide

/-! ## Decoding: every constructor, from words written out from R97, R99 and R94 -/

theorem test_decode_host_0_to_5 :
    decode Config.default (.host 0b0000#4) = .ok .attach ∧ decode Config.default (.host 0b0001#4) = .ok .init ∧
    decode Config.default (.host 0b0010#4) = .ok .setWindow ∧ decode Config.default (.host 0b0011#4) = .ok .setCursor ∧
    decode Config.default (.host 0b0100#4) = .ok .turnOnDisplay ∧ decode Config.default (.host 0b0101#4) = .ok .writeFrame := by
  decide

theorem test_decode_host_6_to_A :
    decode Config.default (.host 0b0110#4) = .ok .clear ∧ decode Config.default (.host 0b0111#4) = .ok .pack ∧
    decode Config.default (.host 0b1000#4) = .ok .display ∧ decode Config.default (.host 0b1001#4) = .ok .powerDown ∧
    decode Config.default (.host 0b1010#4) = .ok .teardown := by decide

theorem test_decode_host_reserved :
    decode Config.default (.host 0b1011#4) = .ok .reservedB ∧ decode Config.default (.host 0b1100#4) = .ok .reservedC ∧
    decode Config.default (.host 0b1101#4) = .ok .reservedD ∧ decode Config.default (.host 0b1110#4) = .ok .reservedE ∧
    decode Config.default (.host 0b1111#4) = .ok .reservedF := by decide

theorem test_decode_init_packets :
    decode Config.default (.packet [0b00000001#8, 0x27#8, 0x01#8, 0x00#8]) = .ok (.pktDriverOutputControl 0x27#8 0x01#8 0x00#8) ∧
    decode Config.default (.packet [0b00001100#8, 0xD7#8, 0xD6#8, 0x9D#8]) = .ok (.pktBoosterSoftStart 0xD7#8 0xD6#8 0x9D#8) ∧
    decode Config.default (.packet [0b00101100#8, 0xA8#8]) = .ok (.pktWriteVcom 0xA8#8) ∧
    decode Config.default (.packet [0b00111010#8, 0x1A#8]) = .ok (.pktSetDummyLinePeriod 0x1A#8) ∧
    decode Config.default (.packet [0b00111011#8, 0x08#8]) = .ok (.pktSetGateTime 0x08#8) ∧
    decode Config.default (.packet [0b00010001#8, 0x03#8]) = .ok (.pktDataEntryMode 0x03#8) := by decide

theorem test_decode_long_packets :
    decode Config.default (.packet (0b00110010#8 :: Config.default.lutFull.toList)) = .ok (.pktWriteLut Config.default.lutFull.toList) ∧
    decode Config.default (.packet (0b00100100#8 :: List.replicate 16 0xAA#8)) = .ok (.pktWriteRam (List.replicate 16 0xAA#8)) := by
  decide

theorem test_decode_address_packets :
    decode Config.default (.packet [0b01000100#8, 0x00#8, 0x0F#8]) = .ok (.pktSetRamXStartEnd 0x00#8 0x0F#8) ∧
    decode Config.default (.packet [0b01000101#8, 0xFF#8, 0x00#8, 0x00#8, 0x01#8]) =
      .ok (.pktSetRamYStartEnd 0xFF#8 0x00#8 0x00#8 0x01#8) ∧
    decode Config.default (.packet [0b01001110#8, 0x09#8]) = .ok (.pktSetRamXCounter 0x09#8) ∧
    decode Config.default (.packet [0b01001111#8, 0x2C#8, 0x01#8]) = .ok (.pktSetRamYCounter 0x2C#8 0x01#8) := by decide

theorem test_decode_refresh_packets :
    decode Config.default (.packet [0b00100010#8, 0xC4#8]) = .ok (.pktDisplayUpdateControl2 0xC4#8) ∧
    decode Config.default (.packet [0b00100000#8]) = .ok .pktMasterActivation ∧
    decode Config.default (.packet [0b11111111#8]) = .ok .pktTerminateFrameRw ∧
    decode Config.default (.packet [0b00010000#8, 0x01#8]) = .ok (.pktDeepSleepMode 0x01#8) := by decide

theorem test_decode_refuses :
    decode Config.default (.packet []) = .error .empty ∧
    decode Config.default (.packet [0x99#8]) = .error (.unknownCommand 0x99#8) ∧
    decode Config.default (.packet [0x44#8, 0x00#8]) = .error (.wrongDataCount .setRamXStartEnd 1) := by decide

theorem test_encode :
    encode Config.default .clear = .host 0b0110#4 ∧
    encode Config.default (.pktSetRamYCounter 0x27#8 0x01#8) = .packet [0x4F#8, 0x27#8, 0x01#8] := by decide

/-- The words of opcode_table.json; 0x01 and 0x0C stand both for a host word and for a packet's command byte (log entry 13). -/
theorem test_table_words :
    decodeTableWord 8 0xA = some .teardown ∧ decodeTableWord 8 0x44 = some (.pktSetRamXStartEnd 0#8 0#8) ∧
    decodeTableWord 8 0xFF = some .pktTerminateFrameRw ∧ decodeTableWord 8 0x01 = some .init ∧
    decodeTableWord 32 0x00012701 = some (.pktDriverOutputControl 0x27#8 0x01#8 0x00#8) := by decide

/-- A command byte the configuration moves is decoded where it was moved to (R8). -/
theorem test_decode_other_config :
    decode { Config.default with opWriteRam := 0x77#8 } (.packet (0x77#8 :: List.replicate 16 1#8)) =
      .ok (.pktWriteRam (List.replicate 16 1#8)) := by decide

/-! ### The reference decoder (V-E1 to V-E3) -/

theorem test_history_E1 :
    decodeHistory (packetEvents 0x44#8 [0x00#8, 0x0F#8]) = some [⟨0x44#8, [0x00#8, 0x0F#8]⟩] := by decide

theorem test_history_E2 : decodeHistory (resetEvents ++ packetEvents 0x01#8 []) = some [⟨0x01#8, []⟩] := by decide

theorem test_history_E3 :
    decodeHistory (packetEvents 0x20#8 [] ++ packetEvents 0xFF#8 []) = some [⟨0x20#8, []⟩, ⟨0xFF#8, []⟩] := by decide

/-- A write of `RST` belongs to no frame, wherever it stands (log entry 21). -/
theorem test_history_rst :
    decodeHistory [⟨.pinWrite .dc .low, .ok⟩, ⟨.pinWrite .rst .high, .ok⟩, ⟨.pinWrite .cs .low, .ok⟩, ⟨.spiWrite 0x20#8, .ok⟩,
      ⟨.pinWrite .cs .high, .ok⟩] = some [⟨0x20#8, []⟩] := by decide

/-- A framing event answered `fail` does not parse (log entry 25). -/
theorem test_history_fail :
    decodeHistory ((frameEvents ⟨.low, 0x20#8⟩).take 3 ++ [⟨.pinWrite .cs .high, .fail⟩]) = none := by decide

/-- A data byte before the first command, and a torn frame, do not parse (R96). -/
theorem test_history_refuses :
    decodeHistory (frameEvents ⟨.high, 0x00#8⟩) = none ∧ decodeHistory [⟨.pinWrite .dc .low, .ok⟩, ⟨.spiWrite 0#8, .ok⟩] = none := by
  decide

/-! ## Field formulas (95_test_vectors.md 2.4) -/

theorem test_xb :
    xb 120#16 = 0x0F#8 ∧ xb 128#16 = 0x10#8 ∧ xb 2047#16 = 0xFF#8 ∧ xb 2048#16 = 0x00#8 ∧ xb 2056#16 = 0x01#8 := by decide

theorem test_lo_hi :
    (lo8 511#16, hi8 511#16) = (0xFF#8, 0x01#8) ∧ (lo8 65535#16, hi8 65535#16) = (0xFF#8, 0xFF#8) ∧
    (lo8 300#16, hi8 300#16) = (0x2C#8, 0x01#8) := by decide

/-- V-T7. -/
theorem test_spi_C4 :
    spiSamples .low (spiWave Config.default 0xC4#8) = [.high, .high, .low, .low, .low, .high, .low, .low] := by decide

/-! ## Issue: `ERR` after a rejection (V-I5, V-A10, V-R9, V-R12, V-R13, V-P2 to V-P12) -/

theorem test_err_I5 : nextIs (issueIn 0x1 (at' .unbound)) (fun t => errByte t = 0x09#8 && t.hist.isEmpty) = true := by decide
theorem test_err_A10 : nextIs (issueIn 0x2 (at' .sleeping)) (fun t => errByte t = 0x15#8) = true := by decide
theorem test_err_R9 : nextIs (issueIn 0x5 (at' .ready)) (fun t => errByte t = 0x2D#8) = true := by decide
theorem test_err_R12 :
    nextIs (issueIn 0x8 { at' .ready with args := { State.reset.args with imgW := 100, imgH := 100 } })
      (fun t => errByte t = 0x43#8 && decide (t.life = .ready) && !t.flags.fbValid && t.hist.isEmpty) = true := by decide
theorem test_err_R13 : nextIs (issueIn 0x8 (at' .uninitialized)) (fun t => errByte t = 0x45#8) = true := by decide
theorem test_err_P2 : nextIs (issueIn 0x0 (at' .uninitialized)) (fun t => errByte t = 0x05#8) = true := by decide
theorem test_err_P5 : nextIs (issueIn 0x9 (at' .sleeping)) (fun t => errByte t = 0x4D#8) = true := by decide
theorem test_err_P6 : nextIs (issueIn 0x6 (at' .sleeping)) (fun t => errByte t = 0x35#8) = true := by decide
theorem test_err_P8 : nextIs (issueIn 0xA (at' .ready)) (fun t => errByte t = 0x55#8) = true := by decide
theorem test_err_P9 : nextIs (issueIn 0xA (at' .released)) (fun t => errByte t = 0x51#8) = true := by decide
theorem test_err_P12 :
    nextIs (issueIn 0xC (at' .faulted)) (fun t => errByte t = 0x66#8 && decide (t.life = .faulted)) = true := by decide
theorem test_err_E5 : nextIs (issueIn 0xF (at' .ready)) (fun t => errByte t = 0x7E#8) = true := by decide

/-- P3, line 2: `ERR` 0x3B, and `fb_valid` falls. -/
theorem test_pack_rejected :
    nextIs (issueIn 0x7 { at' .unbound with args := { State.reset.args with imgW := 128, imgH := 295 },
                                               flags := { State.reset.flags with fbValid := true } })
      (fun t => errByte t = 0x3B#8 && statusByte t = 0x40#8) = true := by decide

/-- P3, line 3: the resource check comes before the `fb_valid` check (R247). -/
theorem test_err_P3_3 : nextIs (issueIn 0x5 (at' .unbound)) (fun t => errByte t = 0x29#8) = true := by decide

/-- An accepted operation waits for its first request and samples its operands (R23, R172). -/
theorem test_accept_samples :
    nextIs (issueIn 0x3 { at' .ready with args := { State.reset.args with argX0 := 77, argY0 := 300 } })
      (fun t => decide (t.pc = ⟨.sendCommand, 0⟩) && decide (t.rs = [⟨.op .setCursor, 1⟩]) && decide (t.tmp.tX0 = 77#16)
        && decide (t.tmp.tByte = 0x4E#8) && statusByte t = 0x14#8) = true := by decide

/-! ## Host registers (R29, R40) -/

theorem test_arg_fill_low_byte : nextIs (hostWrite 8 0x01FF (at' .ready)) (fun t => hostRead 8 t = some 0x00FF) = true := by
  decide
theorem test_op_reads_zero : hostRead 0 (at' .ready) = some 0 ∧ hostRead 11 (at' .ready) = some 0x02 := by decide
theorem test_register_12 : refusedIs (step (given (.write 12 0) (at' .ready))) (.noSuchRegister 12) = true ∧
    hostRead 12 (at' .ready) = none := by decide
/-- Operand registers keep `ARGW` bits (R8, R23); the bytes sent do not depend on the bits above 15 (D4). -/
theorem test_argw :
    nextIs (hostWrite 5 0x12345 (at' .ready)) (fun t => hostRead 5 t = some 0x2345) = true ∧
    nextIs (hostWrite 5 0x12345 { at' .ready with cfg := { Config.default with argw := 20 } })
      (fun t => hostRead 5 t = some 0x12345 && hi8 (low16 t.args.argY0) = 0x23#8) = true := by decide

/-- An image 2^16 + 128 pixels wide is not a supported one (R223). -/
theorem test_wide_image : packImage true 65664 296 ⟨[]⟩ = none := by decide
theorem test_overlap :
    refusedIs (exec .clear (running ⟨.waitIdle, 1⟩ [⟨.op .setCursor, 6⟩] (at' .ready))) .overlappingIssue = true := by decide
theorem test_idle_does_nothing : nextIs (step (at' .ready)) (fun t => decide (t = at' .ready)) = true := by decide
theorem test_program_acts : programActs [.setCursor 8 256, .clear 0xFF#8] =
    [.write 4 8, .write 5 256, .write 0 3, .write 8 255, .write 0 6] := by decide

/-! ## ATTACH, INIT -/

/-- The first request of ATTACH (V-P1). -/
theorem test_attach_first :
    nextIs (step (running ⟨.op .attach, 0⟩ [] (at' .unbound)))
      (fun t => t.pins.ownRst && decide (t.hist = [⟨.acquire .rst, .ok⟩]) && decide (t.life = .unbound)) = true := by decide

/-- V-P3: `Acquire(CS)` fails. -/
theorem test_attach_P3 :
    nextIs (step (failing (running ⟨.op .attach, 2⟩ [] (at' .unbound))))
      (fun t => decide (t.life = .released) && t.res.errInfo = 0x14#8 && !t.pins.ownCs && !t.flags.active) = true := by decide

/-- RESET_SEQ ends: the valid bits fall, `life` is `Reset`, the first command byte is next (R151, R153). -/
theorem test_init_after_reset :
    nextIs (step (running ⟨.resetSeq, 5⟩ [⟨.op .init, 1⟩]
        { at' .sleeping with shadow := { State.reset.shadow with winValid := true, curValid := true } }))
      (fun t => decide (t.life = .reset) && !t.shadow.winValid && !t.shadow.curValid && decide (t.pc = ⟨.sendCommand, 0⟩)
        && t.tmp.tByte = 0x01#8 && decide (t.hist = [⟨.delay 200, .ok⟩])) = true := by decide

/-- V-I6: the first `SpiWrite` of INIT fails. -/
theorem test_init_I6 :
    nextIs (step (failing (running ⟨.sendCommand, 2⟩ [⟨.op .init, 2⟩] { at' .reset with tmp := { State.reset.tmp with tByte := 1#8 } })))
      (fun t => decide (t.life = .faulted) && errByte t = 0x0A#8 && t.res.errInfo = 0x22#8
        && decide (t.hist = [⟨.spiWrite 1#8, .fail⟩])) = true := by decide

/-- LOAD_LUT: after byte 3 comes byte 4, 0x12 (R36, R152). -/
theorem test_lut_next :
    nextIs (step (running ⟨.sendData, 3⟩ [⟨.loadLut, 4⟩, ⟨.op .init, 18⟩] { at' .reset with cnt := { State.reset.cnt with k := 3 } }))
      (fun t => t.cnt.k = 4 && t.tmp.tByte = 0x12#8 && decide (t.pc = ⟨.sendData, 0⟩)) = true := by decide

/-- LOAD_LUT: after byte 29 the table is loaded and INIT ends in `Ready` (R152, R153). -/
theorem test_lut_last :
    nextIs (step (running ⟨.sendData, 3⟩ [⟨.loadLut, 4⟩, ⟨.op .init, 18⟩] { at' .reset with cnt := { State.reset.cnt with k := 29 } }))
      (fun t => t.cnt.k = 30 && decide (t.life = .ready) && statusByte t = 0x04#8) = true := by decide

/-- V-I2: the partial table's first byte is 0x10. -/
theorem test_lut_partial :
    nextIs (step (running ⟨.sendCommand, 3⟩ [⟨.loadLut, 1⟩, ⟨.op .init, 18⟩]
        { at' .reset with cfg := { Config.default with lutSelect := .partialUpdate } }))
      (fun t => t.tmp.tByte = 0x10#8) = true := by decide

/-! ## Transport and busy wait -/

/-- V-T5: the byte fails; `CS` stays as it was, nothing follows. -/
theorem test_send_T5 :
    nextIs (step (failing (running ⟨.sendData, 2⟩ [⟨.op .powerDown, 2⟩]
        { at' .ready with pins := { State.reset.pins with cs := .driven .low, dc := .driven .high } })))
      (fun t => t.res.errInfo = 0x22#8 && decide (t.pins.cs = .driven .low) && decide (t.pins.dc = .driven .high)) = true := by decide

/-- V-T6: the first write of `DC` fails; the latch keeps its value. -/
theorem test_send_T6 :
    nextIs (step (failing (running ⟨.sendCommand, 0⟩ [⟨.op .powerDown, 1⟩] (at' .ready))))
      (fun t => t.res.errInfo = 0x08#8 && decide (t.pins.dc = .undriven) && decide (t.life = .faulted)) = true := by decide

/-- V-W1. -/
theorem test_wait_W1 :
    nextIs (step (running ⟨.waitIdle, 1⟩ [⟨.op .setCursor, 6⟩] (at' .ready)))
      (fun t => decide (t.hist = [⟨.pinRead, .level .low⟩]) && !t.flags.busySample && !t.flags.active && decide (t.life = .ready)) =
        true := by decide

/-- V-W7: a limit of one poll. -/
theorem test_wait_W7 :
    nextIs (step (busy (running ⟨.waitIdle, 1⟩ [⟨.op .turnOnDisplay, 5⟩]
        { at' .busy with cfg := { Config.default with busyTimeoutPolls := some 1 } })))
      (fun t => errByte t = 0x24#8 && decide (t.life = .faulted) && decide (t.hist = [⟨.pinRead, .level .high⟩])) = true := by decide

/-- V-W9: the poll fails. -/
theorem test_wait_W9 :
    nextIs (step (failing (running ⟨.waitIdle, 1⟩ [⟨.op .setCursor, 6⟩] (at' .ready))))
      (fun t => t.res.errInfo = 0x19#8) = true := by decide

/-- A busy poll is followed by the delay, and the delay by a poll (R134). -/
theorem test_wait_loop :
    nextIs (step (busy (running ⟨.waitIdle, 1⟩ [⟨.op .setCursor, 6⟩] (at' .ready))))
      (fun t => t.flags.busySample && decide (t.pc = ⟨.waitIdle, 3⟩)) = true ∧
    nextIs (step (busy (running ⟨.waitIdle, 3⟩ [⟨.op .setCursor, 6⟩] (at' .ready))))
      (fun t => t.cnt.polls = 1 && decide (t.pc = ⟨.waitIdle, 1⟩) && decide (t.hist = [⟨.delay 200, .ok⟩])) = true := by decide

/-! ## Window and cursor -/

/-- V-A4: the last frame of SET_WINDOW; the window is recorded when it is complete. -/
theorem test_window_A4 :
    nextIs (step (running ⟨.sendData, 3⟩ [⟨.op .setWindow, 8⟩] { at' .ready with tmp := { State.reset.tmp with tY1 := 0x1234#16 } }))
      (fun t => t.shadow.winYe = 0x1234#16 && t.shadow.winValid && !t.flags.active) = true := by decide

/-- V-A8: the X counter of cursor 77 is byte-column 9. -/
theorem test_cursor_A8 :
    nextIs (step (running ⟨.sendCommand, 3⟩ [⟨.op .setCursor, 1⟩] { at' .ready with tmp := { State.reset.tmp with tX0 := 77#16 } }))
      (fun t => t.tmp.tByte = 0x09#8 && decide (t.pc = ⟨.sendData, 0⟩) && t.shadow.curX = 0#8) = true := by decide

/-- The whole cursor is recorded when its last frame is complete, and a poll is next (R171). -/
theorem test_cursor_recorded :
    nextIs (step (running ⟨.sendData, 3⟩ [⟨.op .setCursor, 5⟩] { at' .ready with tmp := { State.reset.tmp with tY0 := 256#16 } }))
      (fun t => t.shadow.curY = 256#16 && t.shadow.curValid && decide (t.pc = ⟨.waitIdle, 1⟩) && decide (t.life = .ready)) =
        true := by decide

/-! ## Refresh and frames -/

/-- V-R1: `life` is `Busy` after the master-activation frame. -/
theorem test_refresh_busy :
    nextIs (step (running ⟨.sendCommand, 3⟩ [⟨.op .turnOnDisplay, 3⟩] (at' .ready)))
      (fun t => decide (t.life = .busy) && t.tmp.tByte = 0xFF#8) = true := by decide

/-- The wait returns: `Ready`, and the glass shows panel RAM (R72 (3)). -/
theorem test_refresh_ends :
    nextIs (step (running ⟨.waitIdle, 1⟩ [⟨.op .turnOnDisplay, 5⟩]
        { at' .busy with panel := { (at' .ready).panel with ram := [(33, 0xBF#8)] } }))
      (fun t => decide (t.life = .ready) && decide (t.panel.shownAt 1 2 = some 0xBF#8)) = true := by decide

/-- V-R8, row 2: byte 1 of the row is `FB[33]`. -/
theorem test_frame_byte_33 :
    nextIs (step (running ⟨.sendData, 3⟩ [⟨.op .writeFrame, 7⟩]
        { at' .ready with fb := [(33, 0xBF#8)], cnt := { State.reset.cnt with j := 2, i := 0 } }))
      (fun t => t.cnt.i = 1 && t.tmp.tByte = 0xBF#8) = true := by decide

/-- V-R7: after row 255 comes row 256, whose cursor is (0, 256). -/
theorem test_frame_row_256 :
    nextIs (step (running ⟨.sendData, 3⟩ [⟨.op .clear, 7⟩] { at' .ready with cnt := { State.reset.cnt with j := 255, i := 15 } }))
      (fun t => t.cnt.j = 256 && t.tmp.tY0 = 256#16 && t.tmp.tByte = 0x4E#8 && decide (t.rs = [⟨.op .setCursor, 1⟩, ⟨.op .clear, 4⟩])) =
        true := by decide

/-- After row 295 comes the refresh. -/
theorem test_frame_last_row :
    nextIs (step (running ⟨.sendData, 3⟩ [⟨.op .clear, 7⟩] { at' .ready with cnt := { State.reset.cnt with j := 295, i := 15 } }))
      (fun t => t.cnt.j = 296 && t.tmp.tByte = 0x22#8 && decide (t.rs = [⟨.op .turnOnDisplay, 1⟩, ⟨.op .clear, 10⟩])) = true := by decide

/-- V-R10: the first data byte of row 3 fails; the counters keep what they held. -/
theorem test_clear_R10 :
    nextIs (step (failing (running ⟨.sendData, 2⟩ [⟨.op .clear, 7⟩] { at' .ready with cnt := { State.reset.cnt with j := 3, i := 0 } })))
      (fun t => t.cnt.j = 3 && t.cnt.i = 0 && decide (t.life = .faulted)) = true := by decide

/-- CLEAR sends the color sampled at acceptance (R183). -/
theorem test_clear_byte :
    nextIs (step (running ⟨.sendCommand, 3⟩ [⟨.op .clear, 5⟩]
        { at' .ready with tmp := { State.reset.tmp with tFill := 0xAA#8 }, cnt := { State.reset.cnt with j := 9, i := 16 } }))
      (fun t => t.tmp.tByte = 0xAA#8 && t.cnt.i = 0) = true := by decide

/-! ## Packer, one pixel at a time (V-K5, V-K8, V-K11, V-K22, V-K25, V-K32) -/

/-- An image whose only black pixel is at `(x, y)`. -/
def dot (x y : Nat) : Image := { rows := List.replicate y [] ++ [List.replicate x false ++ [true]] }

theorem test_pixel_K8 : landscapePixel (dot 9 2) 2 filledFb 9 = [(33, 0xBF#8)] := by decide
theorem test_pixel_K11 : landscapePixel (dot 127 295) 295 filledFb 127 = [(4735, 0xFE#8)] := by decide
theorem test_pixel_white : landscapePixel (dot 9 2) 2 filledFb 8 = [] := by decide
theorem test_pixel_K25 : portraitPixel false (dot 10 9) 9 filledFb 10 = [(4561, 0xBF#8)] := by decide
theorem test_pixel_K22 : portraitPixel true (dot 1 1) 127 filledFb 0 = [(4735, 0xFE#8)] := by decide
theorem test_pixel_K32 : portraitPixel true (dot 10 9) 9 filledFb 10 = [] := by decide
/-- V-K12's first byte: seven bits of one byte cleared one after another, by hand calculation. -/
theorem test_clear_bits :
    clearBit (clearBit filledFb 33 (pixelMask 9)) 33 (pixelMask 15) = [(33, 0xBE#8)] ∧ pixelMask 0 = 0x80#8 := by decide

/-! ## POWER_DOWN, TEARDOWN -/

/-- V-P4: `Sleeping` once the delay is answered. -/
theorem test_power_down_ends :
    nextIs (step (running ⟨.op .powerDown, 2⟩ [] (at' .ready)))
      (fun t => decide (t.life = .sleeping) && decide (t.hist = [⟨.delay 2000, .ok⟩])) = true := by decide

/-- V-P7: a released output pin is undriven; the last release ends in `Released`. -/
theorem test_teardown_release :
    nextIs (step (running ⟨.op .teardown, 2⟩ []
        { at' .sleeping with pins := { State.reset.pins with rst := .driven .low, ownRst := true } }))
      (fun t => decide (t.pins = State.reset.pins) && decide (t.life = .sleeping)) = true ∧
    nextIs (step (running ⟨.op .teardown, 6⟩ [] (at' .faulted))) (fun t => decide (t.life = .released)) = true := by decide

/-- R202: while the panel is held in reset its RAM is unknown; the glass keeps its picture (log entry 22). -/
theorem test_teardown_panel :
    nextIs (step (running ⟨.op .teardown, 0⟩ []
        { at' .faulted with panel := { (at' .ready).panel with ram := [(0, 1#8)], shown := [(0, 2#8)] } }))
      (fun t => t.panel.ram.isEmpty && decide (t.panel.shown = [(0, 2#8)]) && decide (t.pins.rst = .driven .low)) = true := by decide

/-- R202: a failure inside TEARDOWN ends in `Released` all the same. -/
theorem test_teardown_fails :
    nextIs (step (failing (running ⟨.op .teardown, 1⟩ [] (at' .sleeping))))
      (fun t => decide (t.life = .released) && errByte t = 0x52#8 && t.res.errInfo = 0x08#8) = true := by decide

/-! ## Packets -/

/-- A packet's bytes, given to the machine; one step. -/
def send (bytes : List Byte) (s : State) : Host.Outcome State Fault Refusal := step (given (.packet bytes) s)

/-- V-E3's second packet: one command frame. -/
theorem test_packet_terminate :
    nextIs (send [0xFF#8] (at' .ready)) (fun t => decide (t.hist = frameEvents ⟨.low, 0xFF#8⟩) && decide (t.pins.cs = .driven .high)) =
      true := by decide

/-- V-A1's Y packet: the shadow rows, low byte first. -/
theorem test_packet_window_y :
    nextIs (send [0x45#8, 0x00#8, 0x00#8, 0x27#8, 0x01#8] (at' .ready))
      (fun t => t.shadow.winYs = 0#16 && t.shadow.winYe = 295#16 && t.hist.length = 20) = true := by decide

theorem test_packet_window_x :
    nextIs (send [0x44#8, 0x01#8, 0x0F#8] (at' .ready)) (fun t => t.shadow.winXs = 1#8 && t.shadow.winXe = 15#8 &&
      decide (t.pins.dc = .driven .high)) = true := by decide

theorem test_packet_cursor :
    nextIs (send [0x4E#8, 0x09#8] (at' .ready)) (fun t => t.shadow.curX = 9#8) = true ∧
    nextIs (send [0x4F#8, 0x2C#8, 0x01#8] (at' .ready)) (fun t => t.shadow.curY = 300#16 && !t.shadow.curValid) = true := by decide

/-- A whole window, the cursor at row 2: what R72 (1) asks for. -/
def framed : State :=
  { at' .ready with
      shadow := { winXs := 0#8, winXe := 15#8, winYs := 0#16, winYe := 295#16, curX := 0#8, curY := 2#16, winValid := true,
                  curValid := true },
      panel := { (at' .ready).panel with cursorX := true, cursorFresh := true } }

/-- R72 (1): byte 1 of the row lands at (1, 2). -/
theorem test_packet_ram :
    nextIs (send (0x24#8 :: 0xFF#8 :: 0xBF#8 :: List.replicate 14 0xFF#8) framed)
      (fun t => decide (t.panel.ramAt 1 2 = some 0xBF#8) && decide (t.panel.ramAt 15 2 = some 0xFF#8) && t.panel.ram.length = 16) =
        true := by decide

/-- U7: a command that reaches the panel during a refresh makes panel RAM unknown. -/
theorem test_packet_while_refreshing :
    nextIs (send [0x44#8, 0x00#8, 0x0F#8] { framed with panel := { framed.panel with ram := [(0, 1#8)], refreshing := true } })
      (fun t => t.panel.ram.isEmpty) = true ∧
    nextIs (send [0xFF#8] { framed with panel := { framed.panel with ram := [(0, 1#8)], refreshing := true } })
      (fun t => decide (t.panel.ram = [(0, 1#8)])) = true := by decide

/-- R72 (2): a second row without a new cursor makes panel RAM unknown. -/
theorem test_packet_ram_stale :
    nextIs (send (0x24#8 :: List.replicate 16 0xFF#8)
        { framed with panel := { framed.panel with cursorFresh := false, ram := [(0, 1#8)] } })
      (fun t => t.panel.ram.isEmpty) = true := by decide

/-- Master activation: the glass is unknown until the refresh ends (log entry 9). -/
theorem test_packet_activation :
    nextIs (send [0x20#8] { framed with panel := { framed.panel with shown := [(0, 1#8)] } })
      (fun t => t.panel.shown.isEmpty && t.panel.refreshing && decide (t.hist = frameEvents ⟨.low, 0x20#8⟩)) = true := by decide

theorem test_packet_init_bytes :
    nextIs (send [0x01#8, 0x27#8, 0x01#8, 0x00#8] (at' .ready))
      (fun t => decide (decodeHistory t.hist = some [⟨0x01#8, [0x27#8, 0x01#8, 0x00#8]⟩])) = true ∧
    nextIs (send [0x0C#8, 0xD7#8, 0xD6#8, 0x9D#8] (at' .ready))
      (fun t => decide (decodeHistory t.hist = some [⟨0x0C#8, [0xD7#8, 0xD6#8, 0x9D#8]⟩])) = true := by decide

theorem test_packet_one_byte :
    nextIs (send [0x2C#8, 0xA8#8] (at' .ready)) (fun t => decide (decodeHistory t.hist = some [⟨0x2C#8, [0xA8#8]⟩])) = true ∧
    nextIs (send [0x3A#8, 0x1A#8] (at' .ready)) (fun t => decide (decodeHistory t.hist = some [⟨0x3A#8, [0x1A#8]⟩])) = true ∧
    nextIs (send [0x3B#8, 0x08#8] (at' .ready)) (fun t => decide (decodeHistory t.hist = some [⟨0x3B#8, [0x08#8]⟩])) = true ∧
    nextIs (send [0x11#8, 0x03#8] (at' .ready)) (fun t => decide (decodeHistory t.hist = some [⟨0x11#8, [0x03#8]⟩])) = true := by
  decide

theorem test_packet_refresh_bytes :
    nextIs (send [0x22#8, 0xC4#8] (at' .ready)) (fun t => decide (decodeHistory t.hist = some [⟨0x22#8, [0xC4#8]⟩])) = true ∧
    nextIs (send [0x10#8, 0x01#8] (at' .ready))
      (fun t => decide (decodeHistory t.hist = some [⟨0x10#8, [0x01#8]⟩]) && t.panel.asleep && decide (t.life = .ready)) = true := by
  decide

set_option maxRecDepth 4000 in
/-- 30 data frames, 124 events (V-I7). -/
theorem test_packet_lut :
    nextIs (send (0x32#8 :: Config.default.lutFull.toList) (at' .ready)) (fun t => t.hist.length = 124 && t.tmp.tByte = 0x00#8) = true := by
  decide

/-- The second request fails: `CS` could not be driven; nothing follows (R243). -/
theorem test_packet_fails :
    nextIs (send [0x20#8] { at' .ready with env := { script := [⟨false, .low⟩], tail := .steady ⟨true, .low⟩ } })
      (fun t => decide (t.hist = [⟨.pinWrite .dc .low, .ok⟩, ⟨.pinWrite .cs .low, .fail⟩]) && t.res.errInfo = 0x10#8
        && decide (t.pins.cs = .undriven)) = true := by decide

theorem test_packet_refused : refusedIs (send [0x20#8, 0x00#8] (at' .ready)) (.undecodable (.wrongDataCount .masterActivation 1)) = true := by
  decide

/-- A word placed by withFetchWord is what the next step runs, also from reset, whose answers are free. -/
theorem test_fetch_word :
    nextIs (step (State.reset.withFetchWord 8 0x06)) (fun t => errByte t = 0x31#8) = true ∧
    nextIs (step (State.reset.withFetchWord 8 0x2C)) (fun _ => true) = true := by decide

/-! ## The ghost panel -/

/-- A window or a cursor outside the panel makes panel RAM unknown (R173, U5); inside, it stays. -/
theorem test_panel_window :
    Panel.windowSent { (at' .ready).panel with ram := [(0, 1#8)] } { framed.shadow with winXe := 16#8 } = (at' .ready).panel ∧
    (Panel.windowSent { (at' .ready).panel with ram := [(0, 1#8)] } framed.shadow).ram = [(0, 1#8)] ∧
    (Panel.cursorSent { (at' .ready).panel with ram := [(0, 1#8)] } { framed.shadow with curY := 296#16 }).ram = [] := by decide

/-! ## Witnesses: for each statement with hypotheses, values that meet all of them together -/

/-- DISPLAY's frame write, in a cursor's last frame: the return stack is three deep. -/
def deep : State :=
  running ⟨.sendData, 3⟩ [⟨.op .setCursor, 5⟩, ⟨.op .writeFrame, 4⟩, ⟨.op .display, 2⟩]
    { at' .ready with cnt := { State.reset.cnt with j := 295 } }

/-- A refresh about to poll. -/
def refreshing : State :=
  running ⟨.waitIdle, 1⟩ [⟨.op .turnOnDisplay, 5⟩] { at' .busy with panel := { (at' .ready).panel with ram := [(33, 0xBF#8)] } }

/-- A busy wait between its poll and the next. -/
def delaying : State := running ⟨.waitIdle, 3⟩ [⟨.op .setCursor, 6⟩] (at' .ready)

/-- A command frame's first line, without failing requests. -/
def firstLine (r : Routine) : State :=
  running ⟨r, 0⟩ [⟨.op .powerDown, 1⟩] { at' .ready with cfg := { Config.default with shimCanFail := false } }

theorem quiet_at (l : Life) (n : Nat) : Quiet (at' l) n := fun _ _ => rfl

theorem idlePanel_at (l : Life) (n : Nat) : IdlePanel (at' l) n := fun _ _ => rfl

theorem witness_invariant_deep : Safety.Invariant deep := by
  unfold Safety.Invariant seqInv memInv argsInv; decide

theorem witness_invariant_refreshing : Safety.Invariant refreshing := by
  unfold Safety.Invariant seqInv memInv argsInv; decide

theorem witness_invariant_delaying : Safety.Invariant delaying := by
  unfold Safety.Invariant seqInv memInv argsInv; decide

theorem witness_DecodeEncodeRoundTrip :
    Config.default.distinctCommands = true ∧ (Instr.pktWriteRam (List.replicate 16 0xFF#8)).wf = true ∧
    (Instr.pktWriteLut (List.replicate 30 0#8)).wf = true ∧ Instr.clear.wf = true := by decide

theorem witness_DecodedIsEncoded :
    decode Config.default (.packet [0x20#8]) = .ok .pktMasterActivation ∧ decode Config.default (.host 0xF#4) = .ok .reservedF := by
  decide

theorem witness_FieldFormulas : 127 < 128 ∧ 295 < 296 := by decide

theorem witness_StepKeepsInvariant : Safety.Invariant deep ∧ Safety.Invariant State.reset :=
  ⟨witness_invariant_deep, by unfold Safety.Invariant seqInv memInv argsInv; decide⟩

theorem witness_StepKeepsFraming :
    Safety.Invariant (firstLine .sendCommand) ∧ FrameInv (firstLine .sendCommand) ∧
    (firstLine .sendCommand).failsAt (firstLine .sendCommand).hist.length = false ∧
    hostOnly (firstLine .sendCommand) = true ∧ ∃ t, step (firstLine .sendCommand) = .next t := by
  refine ⟨by unfold Safety.Invariant seqInv memInv argsInv; decide, by unfold FrameInv; decide, rfl, rfl, _, rfl⟩

theorem witness_FramedHistoryParses :
    frameState (packetEvents 0x20#8 []) = .between ∧ frameState [⟨.pinWrite .dc .low, .ok⟩, ⟨.release .dc, .ok⟩] = .dcWritten .low := by
  decide

theorem witness_ReturnStackDepth : Safety.Invariant deep ∧ deep.rs.length = 3 := ⟨witness_invariant_deep, rfl⟩

theorem witness_CanonicalMemoryUnique : Memory.wf [(0, 0#8), (4735, 1#8)] = true := by decide

theorem witness_StepRunsDecoded :
    (given (.write 0 6) (at' .ready)).flags.active = false ∧ (given (.write 0 6) (at' .ready)).inbox = .write 0 6 :: [] ∧
    (given (.packet [0x20#8]) (at' .ready)).inbox = .packet [0x20#8] :: [] ∧
    decodePacket (at' .ready).cfg [0x20#8] = .ok .pktMasterActivation ∧
    decodePacket (at' .ready).cfg [0x20#8, 0#8] = .error (.wrongDataCount .masterActivation 1) ∧
    (given (.write 11 0) (at' .ready)).inbox = .write (10 + 1) 0 :: [] ∧
    (given (.image ⟨[[true]]⟩) (at' .ready)).inbox = .image ⟨[[true]]⟩ :: [] ∧ (at' .ready).inbox = [] := by decide

theorem witness_OneRequestPerStep :
    Safety.Invariant refreshing ∧ refreshing.flags.active = true ∧ ∃ t, step refreshing = .next t :=
  ⟨witness_invariant_refreshing, rfl, _, rfl⟩

theorem witness_HistoryOnlyGrows : ∃ t, step deep = .next t := ⟨_, rfl⟩

theorem witness_InputsNeverWritten :
    (refreshing.flags.active = true ∧ ∃ t, step refreshing = .next t) ∧ ∃ t, exec .clear (at' .ready) = .next t :=
  ⟨⟨rfl, _, rfl⟩, _, rfl⟩

theorem witness_FbWrittenOnlyByPack :
    (Instr.clear ≠ .pack ∧ Instr.clear ≠ .display ∧ ∃ t, exec .clear (at' .ready) = .next t) ∧
    (Safety.Invariant refreshing ∧ refreshing.flags.active = true ∧ ∃ t, step refreshing = .next t) :=
  ⟨⟨by decide, by decide, _, rfl⟩, witness_OneRequestPerStep⟩

theorem witness_FaultIsSticky :
    (∃ t, step { refreshing with flags := { refreshing.flags with fault := true } } = .next t) ∧
    ({ refreshing with flags := { refreshing.flags with fault := true } } : State).flags.fault = true := ⟨⟨_, rfl⟩, rfl⟩

theorem witness_BusySampleOnlyByPoll_answered :
    refreshing.flags.active = true ∧ (∃ t, step refreshing = .next t) ∧ line refreshing = .ask .pinRead ∧
    refreshing.failsAt refreshing.hist.length = false := ⟨rfl, ⟨_, rfl⟩, rfl, rfl⟩

theorem witness_BusySampleOnlyByPoll_failed :
    (failing refreshing).flags.active = true ∧ (∃ t, step (failing refreshing) = .next t) ∧
    (failing refreshing).failsAt (failing refreshing).hist.length = true := ⟨rfl, ⟨_, rfl⟩, rfl⟩

theorem witness_BusySampleOnlyByPoll_other :
    delaying.flags.active = true ∧ (∃ t, step delaying = .next t) ∧ line delaying ≠ .ask .pinRead :=
  ⟨rfl, ⟨_, rfl⟩, by decide⟩

theorem witness_GlassChangesOnlyByRefresh :
    Safety.Invariant refreshing ∧ nextIs (step refreshing) (fun t => decide (t.panel.shown = [(33, 0xBF#8)])) = true :=
  ⟨witness_invariant_refreshing, by decide⟩

theorem witness_HostWriteTouchesOperandsOnly :
    (∃ t, hostWrite 1 7 (at' .ready) = .next t) ∧ ∃ t, hostWrite 10 7 (at' .ready) = .next t := ⟨⟨_, rfl⟩, _, rfl⟩

theorem witness_HostRegistersReadBack : (at' .ready).flags.active = false ∧ (4 ≤ 4 ∧ 4 ≤ 10) ∧ (4 ≤ 8 ∧ 8 ≤ 10) ∧ (4 ≤ 10 ∧ 10 ≤ 10) := by
  decide

theorem witness_StatusLayout : ∃ t, hostWrite 1 0xFFFF (at' .ready) = .next t := ⟨_, rfl⟩

theorem witness_ConfigurationIsConstant : ∃ t, step deep = .next t := ⟨_, rfl⟩

theorem witness_LegalityTable :
    (at' .ready).flags.active = false ∧ lifeCell .attach .released = some (some .resourceUnavailable) ∧
    lifeCell .init .faulted = some none ∧ lifeCell .pack .unbound = some none ∧ lifeCell .display .ready = some none ∧
    lifeCell .writeFrame .ready = some none ∧
    ({ at' .ready with flags := { State.reset.flags with fbValid := true } } : State).flags.fbValid = true := by decide

theorem witness_RejectionChangesOnlyResults :
    Idle (at' .released) ∧ lifeCell .teardown .released = some (some .resourceUnavailable) ∧
    Idle (at' .ready) ∧ (at' .ready).life = .ready ∧ (at' .ready).flags.fbValid = false := by
  unfold Idle; decide

theorem witness_ReservedCodesIllegal :
    Idle (at' .busy) ∧
    (Instr.reservedB, 0xB#4) ∈ [(Instr.reservedB, 0xB#4), (.reservedC, 0xC#4), (.reservedD, 0xD#4), (.reservedE, 0xE#4), (.reservedF, 0xF#4)] ∧
    (Instr.reservedF, 0xF#4) ∈ [(Instr.reservedB, 0xB#4), (.reservedC, 0xC#4), (.reservedD, 0xD#4), (.reservedE, 0xE#4), (.reservedF, 0xF#4)] := by
  unfold Idle; decide

theorem witness_OverlappingIssueRefused :
    delaying.flags.active = true ∧ Instr.clear.packetParts = none ∧ Instr.reservedF.packetParts = none := by decide

theorem witness_RaiseEffect :
    runningRoutine deep.pc deep.rs = .op .display ∧
    (running ⟨.op .pack, 0⟩ [⟨.op .display, 1⟩] (at' .ready)).pc.routine = .op .pack ∧
    (running ⟨.op .pack, 0⟩ [⟨.op .display, 1⟩] (at' .ready)).rs = [⟨.op .display, 1⟩] := by decide

theorem witness_TransportFailureAborts :
    (failing deep).flags.active = true ∧ line (failing deep) = .ask (.pinWrite .cs .high) ∧
    (failing deep).failsAt (failing deep).hist.length = true ∧ runningRoutine (failing deep).pc (failing deep).rs = .op .display := by
  decide

theorem witness_SendFrames :
    ((firstLine .sendCommand).flags.active = true ∧ (firstLine .sendCommand).pc = ⟨.sendCommand, 0⟩ ∧ Quiet (firstLine .sendCommand) 4) ∧
    ((firstLine .sendData).flags.active = true ∧ (firstLine .sendData).pc = ⟨.sendData, 0⟩ ∧ Quiet (firstLine .sendData) 4) :=
  ⟨⟨rfl, rfl, fun _ _ => rfl⟩, rfl, rfl, fun _ _ => rfl⟩

theorem witness_BusyPanelHangs :
    (busy refreshing).flags.active = true ∧ (busy refreshing).pc = ⟨.waitIdle, 1⟩ ∧ (busy refreshing).cfg.busyTimeoutPolls = none ∧
    ∀ m : Nat, (busy refreshing).failsAt ((busy refreshing).hist.length + m) = false ∧
      (busy refreshing).busyAt ((busy refreshing).hist.length + m) = .high := ⟨rfl, rfl, rfl, fun _ => ⟨rfl, rfl⟩⟩

/-- The busy refresh with a poll limit. -/
def limited (n : Nat) : State := { busy refreshing with cfg := { Config.default with busyTimeoutPolls := some (n + 1) } }

theorem witness_HardenedWaitRaises (n : Nat) :
    (limited n).flags.active = true ∧ (limited n).pc = ⟨.waitIdle, 1⟩ ∧ (limited n).cnt.polls = 0 ∧
    (limited n).cfg.busyTimeoutPolls = some (n + 1) ∧ runningRoutine (limited n).pc (limited n).rs = .op .turnOnDisplay ∧
    Quiet (limited n) (2 * n + 1) ∧ ∀ m : Nat, m < 2 * n + 1 → (limited n).busyAt ((limited n).hist.length + m) = .high :=
  ⟨rfl, rfl, rfl, rfl, rfl, fun _ _ => rfl, fun _ _ => rfl⟩

theorem witness_WaitReturnsOnLow_low :
    Safety.Invariant refreshing ∧ refreshing.flags.active = true ∧ refreshing.failsAt refreshing.hist.length = false ∧
    (∃ t, step refreshing = .next t) ∧ refreshing.pc = ⟨.waitIdle, 1⟩ ∧ refreshing.busyAt refreshing.hist.length = .low :=
  ⟨witness_invariant_refreshing, rfl, rfl, ⟨_, rfl⟩, rfl, rfl⟩

theorem witness_WaitReturnsOnLow_high :
    Safety.Invariant (busy refreshing) ∧ (busy refreshing).flags.active = true ∧
    (busy refreshing).failsAt (busy refreshing).hist.length = false ∧ (∃ t, step (busy refreshing) = .next t) ∧
    (busy refreshing).pc = ⟨.waitIdle, 1⟩ ∧ (busy refreshing).busyAt (busy refreshing).hist.length = .high :=
  ⟨by unfold Safety.Invariant seqInv memInv argsInv; decide, rfl, rfl, ⟨_, rfl⟩, rfl, rfl⟩

theorem witness_WaitReturnsOnLow_delay :
    Safety.Invariant delaying ∧ delaying.flags.active = true ∧ delaying.failsAt delaying.hist.length = false ∧
    (∃ t, step delaying = .next t) ∧ delaying.pc = ⟨.waitIdle, 3⟩ := ⟨witness_invariant_delaying, rfl, rfl, ⟨_, rfl⟩, rfl⟩

theorem witness_SpiWaveSamples : Config.default.spiMsbFirst = true := rfl

theorem witness_AttachCompletes : (at' .unbound).flags.active = false ∧ (at' .unbound).life = .unbound ∧ Quiet (at' .unbound) 5 :=
  ⟨rfl, rfl, quiet_at _ _⟩

theorem witness_InitCompletes :
    (at' .faulted).flags.active = false ∧ (at' .faulted).life ∈ [Life.uninitialized, .ready, .sleeping, .faulted] ∧
    Quiet (at' .faulted) 194 := ⟨rfl, by decide, quiet_at _ _⟩

theorem witness_SetWindowCompletes : (at' .ready).flags.active = false ∧ (at' .ready).life = .ready ∧ Quiet (at' .ready) 32 :=
  ⟨rfl, rfl, quiet_at _ _⟩

/-- `Ready`, with two busy polls after `n` requests. -/
def busyTwice (n : Nat) : State :=
  { at' .ready with
      cfg := { Config.default with busyTimeoutPolls := some 3 },
      env := { script := List.replicate n ⟨false, .low⟩ ++ [⟨false, .high⟩, ⟨false, .low⟩, ⟨false, .high⟩, ⟨false, .low⟩],
               tail := .steady ⟨false, .low⟩ } }

theorem witness_SetCursorCompletes :
    (busyTwice 20).flags.active = false ∧ (busyTwice 20).life = .ready ∧ Quiet (busyTwice 20) (21 + 2 * 2) ∧
    BusyFor (busyTwice 20) 20 2 ∧ WithinPolls (busyTwice 20).cfg 2 := by
  refine ⟨rfl, rfl, by unfold Quiet; decide, by unfold BusyFor; decide, fun n hn => ?_⟩
  have : n = 3 := (Option.some.inj hn).symm
  omega

theorem witness_TurnOnDisplayCompletes :
    (busyTwice 16).flags.active = false ∧ (busyTwice 16).life = .ready ∧ Quiet (busyTwice 16) (17 + 2 * 2) ∧
    BusyFor (busyTwice 16) 16 2 ∧ WithinPolls (busyTwice 16).cfg 2 ∧ (busyTwice 16).panel.refreshing = false := by
  refine ⟨rfl, rfl, by unfold Quiet; decide, by unfold BusyFor; decide, fun n hn => ?_, rfl⟩
  have : n = 3 := (Option.some.inj hn).symm
  omega

theorem pollsBefore_zero (n : Nat) : pollsBefore (fun _ => 0) n = 0 := by
  induction n with
  | zero => rfl
  | succ n ih => simp [pollsBefore, ih]

/-- The waits of a frame loop with an idle panel. -/
theorem frameWaits_idle (s : State) (hb : ∀ n, s.busyAt n = .low) (hc : s.cfg.busyTimeoutPolls = none) :
    FrameWaits s (fun _ => 0) := by
  have hw : ∀ n, BusyFor s n 0 := fun n => ⟨fun _ h => absurd h (Nat.not_lt_zero _), hb _⟩
  exact ⟨fun _ _ => hw _, hw _, fun _ _ n hn => by simp [hc] at hn⟩

/-- R181's counts by hand: the first wait comes after 32 + 20 requests; a busy poll in row 0 costs two requests more. -/
theorem test_rowStart :
    rowStart (fun _ => 0) 0 + 20 = 52 ∧ rowStart (fun j => if j = 0 then 1 else 0) 1 = 32 + 89 + 2 := by decide

theorem witness_WriteFrameCompletes :
    ∃ s : State, s.flags.active = false ∧ s.life = .ready ∧ s.flags.fbValid = true ∧ Quiet s (frameRequests (fun _ => 0)) ∧
      FrameWaits s (fun _ => 0) ∧ s.panel.asleep = false ∧ s.panel.refreshing = false :=
  ⟨{ at' .ready with flags := { State.reset.flags with fbValid := true } }, rfl, rfl, rfl, fun _ _ => rfl,
    frameWaits_idle _ (fun _ => rfl) rfl, rfl, rfl⟩

theorem witness_ClearCompletes :
    (at' .ready).flags.active = false ∧ (at' .ready).life = .ready ∧ Quiet (at' .ready) (frameRequests (fun _ => 0)) ∧
    FrameWaits (at' .ready) (fun _ => 0) ∧ (at' .ready).panel.asleep = false ∧ (at' .ready).panel.refreshing = false :=
  ⟨rfl, rfl, quiet_at _ _, frameWaits_idle _ (fun _ => rfl) rfl, rfl, rfl⟩

/-- `Ready`, with the dimensions of an image in the operand registers. -/
def sized (w h : Nat) : State := { at' .ready with args := { State.reset.args with imgW := w, imgH := h } }

theorem witness_DisplayCompletes :
    (sized 128 296).flags.active = false ∧ (sized 128 296).life = .ready ∧ Quiet (sized 128 296) (frameRequests (fun _ => 0)) ∧
    FrameWaits (sized 128 296) (fun _ => 0) ∧ (sized 128 296).panel.asleep = false ∧ (sized 128 296).panel.refreshing = false ∧
    ∃ fb : Memory, packImage (sized 128 296).cfg.portraitClearOnNonblack (sized 128 296).args.imgW
      (sized 128 296).args.imgH (sized 128 296).img = some fb :=
  ⟨rfl, rfl, fun _ _ => rfl, frameWaits_idle _ (fun _ => rfl) rfl, rfl, rfl, packLandscape (sized 128 296).img, rfl⟩

/-- DISPLAY's frame write failing in row 3, in its window, and before any row is whole. -/
def frameFails (n j : Nat) (r : Routine) (k : Nat) : State :=
  failing (running ⟨.sendData, 1⟩ [⟨r, k⟩, ⟨.op .writeFrame, n⟩, ⟨.op .display, 2⟩]
    { at' .ready with cnt := { State.reset.cnt with j := j },
                      panel := { (at' .ready).panel with ram := [(0, 1#8), (47, 2#8), (48, 3#8)], shown := [(0, 9#8)] } })

/-- WRITE_FRAME failing once its refresh was begun. -/
def activated : State :=
  failing (running ⟨.sendCommand, 1⟩ [⟨.op .turnOnDisplay, 3⟩, ⟨.op .writeFrame, 10⟩]
    { at' .ready with cnt := { State.reset.cnt with j := 296 },
                      panel := { (at' .ready).panel with ram := [(0, 1#8)], refreshing := true } })

/-- The wait of row 3 using up a limit of one poll. -/
def exhausted : State :=
  busy (running ⟨.waitIdle, 1⟩ [⟨.op .setCursor, 6⟩, ⟨.op .writeFrame, 4⟩]
    { at' .ready with cfg := { Config.default with busyTimeoutPolls := some 1 }, cnt := { State.reset.cnt with j := 3 },
                      panel := { (at' .ready).panel with ram := [(0, 1#8), (47, 2#8), (48, 3#8)], shown := [(0, 9#8)] } })

theorem witness_FailureKeepsRowsSent :
    (Safety.Invariant (frameFails 4 3 (.op .setCursor) 5) ∧ (frameFails 4 3 (.op .setCursor) 5).flags.active = true ∧
      ⟨.op .writeFrame, 4⟩ ∈ (frameFails 4 3 (.op .setCursor) 5).rs ∧
      line (frameFails 4 3 (.op .setCursor) 5) = .ask (.pinWrite .cs .low) ∧
      (frameFails 4 3 (.op .setCursor) 5).failsAt (frameFails 4 3 (.op .setCursor) 5).hist.length = true ∧
      (∃ t, step (frameFails 4 3 (.op .setCursor) 5) = .next t)) ∧
    (Safety.Invariant (frameFails 1 3 (.op .setWindow) 2) ∧ ⟨.op .writeFrame, 1⟩ ∈ (frameFails 1 3 (.op .setWindow) 2).rs ∧
      (∃ t, step (frameFails 1 3 (.op .setWindow) 2) = .next t)) ∧
    (Safety.Invariant exhausted ∧ exhausted.flags.active = true ∧ ⟨.op .writeFrame, 4⟩ ∈ exhausted.rs ∧
      line exhausted = .ask .pinRead ∧ exhausted.pc = ⟨.waitIdle, 1⟩ ∧ exhausted.busyAt exhausted.hist.length = .high ∧
      pollsExhausted exhausted = true ∧ ∃ t, step exhausted = .next t) := by
  refine ⟨⟨?_, rfl, by decide, by decide, by decide, ⟨_, rfl⟩⟩, ⟨?_, by decide, ⟨_, rfl⟩⟩, ?_, rfl, by decide, rfl, rfl, rfl, rfl, _, rfl⟩ <;>
    · unfold Safety.Invariant seqInv memInv argsInv; decide

/-- R182: rows 0 to 2 are left, also when the wait of row 3 runs out, and all rows once the refresh was begun; without a whole row
none is. R272: panel RAM and glass are unknown. -/
theorem test_frame_fails :
    nextIs (step (frameFails 4 3 (.op .setCursor) 5))
      (fun t => decide (t.panel.left = [(0, 1#8), (47, 2#8)]) && t.panel.ram.isEmpty && t.panel.shown.isEmpty
        && decide (t.life = .faulted)) = true ∧
    nextIs (step exhausted)
      (fun t => decide (t.panel.left = [(0, 1#8), (47, 2#8)]) && t.panel.ram.isEmpty && decide (t.res.errCode = .hardwareNeverIdle)) =
        true ∧
    nextIs (step activated) (fun t => decide (t.panel.left = [(0, 1#8)]) && t.panel.ram.isEmpty) = true ∧
    nextIs (step (frameFails 1 3 (.op .setWindow) 2)) (fun t => t.panel.left.isEmpty) = true ∧
    nextIs (step (frameFails 4 0 (.op .setCursor) 5)) (fun t => t.panel.left.isEmpty) = true := by decide

/-- `Ready` with `fb_valid` on an idle panel, request number `n` the first to fail. -/
def frameFailsAfter (n : Nat) : State :=
  { at' .ready with flags := { State.reset.flags with fbValid := true },
                    env := { script := List.replicate n ⟨false, .low⟩, tail := .steady ⟨true, .low⟩ } }

theorem frameFailsAfter_answer (n m : Nat) : (frameFailsAfter n).env.answer m = ⟨decide (n ≤ m), .low⟩ := by
  simp only [Env.answer, frameFailsAfter, List.getElem?_replicate]
  by_cases h : m < n
  · simp [h]
  · simp [h, Nat.le_of_not_lt h]

theorem witness_WriteFrameFailureKeepsRows (n r : Nat) (hr : r < 296) (h : rowStart (fun _ => 0) (r + 1) ≤ n)
    (hn : n < frameRequests (fun _ => 0)) :
    ∃ s : State, s.flags.active = false ∧ s.life = .ready ∧ s.flags.fbValid = true ∧ s.panel.asleep = false ∧
      s.panel.refreshing = false ∧ Quiet s n ∧ IdlePanel s n ∧ s.failsAt (s.hist.length + n) = true ∧ r < 296 ∧
      rowStart (fun _ => 0) (r + 1) ≤ n ∧ n < frameRequests (fun _ => 0) := by
  have hl : (frameFailsAfter n).hist.length = 0 := rfl
  refine ⟨frameFailsAfter n, rfl, rfl, rfl, rfl, rfl, fun m hm => ?_, fun m _ => ?_, ?_, hr, h, hn⟩
  · simp [State.failsAt, frameFailsAfter_answer, hl, hm]
  · simp [State.busyAt, frameFailsAfter_answer]
  · have hc : (frameFailsAfter n).cfg.shimCanFail = true := rfl
    simp [State.failsAt, frameFailsAfter_answer, hl, hc]

/-- The bounds of WriteFrameFailureKeepsRows meet: row 0 just sent; row 295 sent, the first request of the refresh, the master
activation's first, the last poll. -/
theorem witness_WriteFrameFailureKeepsRows_bounds :
    rowStart (fun _ => 0) (0 + 1) ≤ 121 ∧ 121 < frameRequests (fun _ => 0) ∧ rowStart (fun _ => 0) (295 + 1) ≤ 26376 ∧
    26383 < rowStart (fun _ => 0) 296 + 8 ∧ rowStart (fun _ => 0) 296 + 8 ≤ 26384 ∧ 26392 < frameRequests (fun _ => 0) := by
  simp only [rowStart, frameRequests, pollsBefore_zero]; omega

theorem witness_PackCompletes :
    (sized 296 128).flags.active = false ∧
    ∃ fb : Memory, packImage (sized 296 128).cfg.portraitClearOnNonblack (sized 296 128).args.imgW
      (sized 296 128).args.imgH (sized 296 128).img = some fb :=
  ⟨rfl, packPortrait true (sized 296 128).img, rfl⟩

theorem witness_PackClosedForm : 127 < 128 ∧ 295 < 296 := by decide

theorem witness_PackRejectsOtherSizes :
    (sized 128 295).flags.active = false ∧ (HostOp.pack = .pack ∨ (HostOp.pack = .display ∧ (sized 128 295).life = .ready)) ∧
    (HostOp.display = .pack ∨ (HostOp.display = .display ∧ (sized 128 295).life = .ready)) ∧
    ((sized 128 295).args.imgW, (sized 128 295).args.imgH) ≠ (128, 296) ∧
    ((sized 128 295).args.imgW, (sized 128 295).args.imgH) ≠ (296, 128) := by decide

theorem witness_PowerDownCompletes : (at' .ready).flags.active = false ∧ (at' .ready).life = .ready ∧ Quiet (at' .ready) 9 :=
  ⟨rfl, rfl, quiet_at _ _⟩

theorem witness_TeardownCompletes :
    (at' .uninitialized).flags.active = false ∧ (at' .uninitialized).life ∈ [Life.uninitialized, .sleeping, .faulted] ∧
    Quiet (at' .uninitialized) 7 := ⟨rfl, by decide, quiet_at _ _⟩

theorem witness_PacketTransmits :
    (Instr.pktSetRamXStartEnd 0#8 15#8).packetParts = some (.setRamXStartEnd, [0#8, 15#8]) ∧
    (Instr.pktSetRamYStartEnd 0#8 0#8 0x27#8 1#8).packetParts = some (.setRamYStartEnd, [0#8, 0#8, 0x27#8, 1#8]) ∧
    (Instr.pktSetRamXCounter 9#8).packetParts = some (.setRamXCounter, [9#8]) ∧
    (Instr.pktSetRamYCounter 0x27#8 1#8).packetParts = some (.setRamYCounter, [0x27#8, 1#8]) ∧
    Instr.pktMasterActivation.packetParts = some (.masterActivation, []) ∧ ∀ n, Quiet (at' .ready) n :=
  ⟨rfl, rfl, rfl, rfl, rfl, fun n => quiet_at .ready n⟩

/-- `Ready`, with the request after `n` others failing. -/
def failsAfter (n : Nat) : State :=
  { at' .ready with env := { script := List.replicate n ⟨false, .low⟩, tail := .steady ⟨true, .low⟩ } }

theorem witness_PacketFailureStops :
    Idle (failsAfter 7) ∧ (Instr.pktDeepSleepMode 1#8).packetParts = some (.deepSleepMode, [1#8]) ∧ 7 < 4 * ([1#8].length + 1) ∧
    Quiet (failsAfter 7) 7 ∧ (failsAfter 7).failsAt ((failsAfter 7).hist.length + 7) = true ∧
    (failsAfter 0).failsAt ((failsAfter 0).hist.length + 0) = true := by
  unfold Idle Quiet; decide

theorem witness_WriteRamPacketEffect :
    (List.replicate 16 0#8).length = 16 ∧ Quiet framed 68 ∧ Quiet (at' .ready) 68 ∧
    (framed.shadow.winValid = true ∧ framed.shadow.curValid = true ∧ framed.panel.cursorFresh = true ∧ framed.panel.asleep = false ∧
      framed.panel.refreshing = false ∧
      framed.shadow.winXs.toNat ≤ framed.shadow.curX.toNat ∧ framed.shadow.curX.toNat + 15 ≤ framed.shadow.winXe.toNat ∧
      framed.shadow.winYs.toNat ≤ framed.shadow.curY.toNat ∧ framed.shadow.curY.toNat ≤ framed.shadow.winYe.toNat ∧
      framed.shadow.winXe.toNat < 16 ∧ framed.shadow.winYe.toNat < 296) ∧
    (at' .ready).shadow.winValid = false :=
  ⟨rfl, fun _ _ => rfl, fun _ _ => rfl, by decide, rfl⟩

end Sys2Proof.Tests
end

/-! The inputs of the machine (configuration, operand registers, image, environment, inbox: R23, R32, R37) and who keeps them:
every line of the microprogram, every request, every instruction. One lemma for each function of the model, in the order of the
definitions; the configuration's constancy follows. -/

namespace Sys2Proof.Safety

open Sys2Proof.Machine

@[refl] theorem SameInputs.refl (s : State) : SameInputs s s := ⟨rfl, rfl, rfl, rfl, rfl⟩

theorem SameInputs.trans {s t u : State} (hst : SameInputs s t) (htu : SameInputs t u) : SameInputs s u := by
  obtain ⟨hcfg, hargs, himg, henv, hinbox⟩ := hst
  obtain ⟨hcfg', hargs', himg', henv', hinbox'⟩ := htu
  exact ⟨hcfg'.trans hcfg, hargs'.trans hargs, himg'.trans himg, henv'.trans henv, hinbox'.trans hinbox⟩

theorem SameInputs.cfg_eq {s t : State} (h : SameInputs s t) : t.cfg = s.cfg := h.1

end Sys2Proof.Safety

namespace Sys2Proof.Machine

open Sys2Proof.Safety

/-! ### Requests and errors -/

theorem requestEffect_sameInputs (r : Request) (l : Level) (s : State) : SameInputs s (requestEffect r l s) := by
  simp [SameInputs]

theorem record_sameInputs (r : Request) (a : Reply) (s : State) : SameInputs s (s.record r a) := by simp [SameInputs]

theorem raise_sameInputs (c : Cause) (code : Option (BitVec 4)) (s : State) : SameInputs s (raise c code s) := by
  simp [SameInputs]

theorem finish_sameInputs (s : State) : SameInputs s s.finish := by simp [SameInputs]

/-- The state a request, or a chain of requests, ends in, however it was answered. -/
def Asked.state : Asked → State
  | .ok t => t
  | .failed _ t => t

@[simp] theorem Asked.state_ok (t : State) : (Asked.ok t).state = t := rfl
@[simp] theorem Asked.state_failed (r : Request) (t : State) : (Asked.failed r t).state = t := rfl

theorem ask_sameInputs (r : Request) (s : State) : SameInputs s (ask r s).state := by
  obtain ⟨-, h⟩ | ⟨-, h⟩ := ask_cases r s <;> rw [h]
  · exact (requestEffect_sameInputs r _ s).trans (record_sameInputs _ _ _)
  · exact record_sameInputs _ _ _

theorem Asked.bind_sameInputs {s : State} {x : Asked} {f : State → Asked} (hx : SameInputs s x.state)
    (hf : ∀ t, SameInputs t (f t).state) : SameInputs s (x.bind f).state := by
  cases x with
  | ok t => exact hx.trans (hf t)
  | failed r t => exact hx

/-! ### The lines of the microprogram -/

/-- Whatever state a line goes on with has the inputs of `s`. -/
def Act.KeepsInputs (s : State) : Act → Prop
  | .ask _ => True
  | .silent t => SameInputs s t
  | .ret t => SameInputs s t
  | .raise _ t => SameInputs s t
  | .stop _ => True

theorem sendCommandLine_keepsInputs (n : Nat) (s : State) : (sendCommandLine n s).KeepsInputs s := by
  unfold sendCommandLine; split <;> simp [Act.KeepsInputs, SameInputs]

theorem sendDataLine_keepsInputs (n : Nat) (s : State) : (sendDataLine n s).KeepsInputs s := by
  unfold sendDataLine; split <;> simp [Act.KeepsInputs, SameInputs]

theorem waitIdleLine_keepsInputs (n : Nat) (s : State) : (waitIdleLine n s).KeepsInputs s := by
  unfold waitIdleLine
  split
  case h_3 | h_4 => split <;> simp [Act.KeepsInputs, SameInputs]
  all_goals simp [Act.KeepsInputs, SameInputs]

theorem resetSeqLine_keepsInputs (n : Nat) (s : State) : (resetSeqLine n s).KeepsInputs s := by
  unfold resetSeqLine; split <;> simp [Act.KeepsInputs, SameInputs, forgetWindow]

theorem loadLutLine_keepsInputs (n : Nat) (s : State) : (loadLutLine n s).KeepsInputs s := by
  unfold loadLutLine
  split
  case h_3 | h_4 => split <;> simp [Act.KeepsInputs, SameInputs]
  all_goals simp [Act.KeepsInputs, SameInputs]

theorem initLine_keepsInputs (n : Nat) (s : State) : (initLine n s).KeepsInputs s := by
  unfold initLine; split <;> simp [Act.KeepsInputs, SameInputs]

theorem setWindowLine_keepsInputs (n : Nat) (s : State) : (setWindowLine n s).KeepsInputs s := by
  unfold setWindowLine; split <;> simp [Act.KeepsInputs, SameInputs]

theorem setCursorLine_keepsInputs (n : Nat) (s : State) : (setCursorLine n s).KeepsInputs s := by
  unfold setCursorLine; split <;> simp [Act.KeepsInputs, SameInputs]

theorem packLine_keepsInputs (n : Nat) (s : State) : (packLine n s).KeepsInputs s := by
  unfold packLine
  split
  case h_1 => split <;> simp [Act.KeepsInputs, SameInputs]
  case h_2 => trivial

theorem turnOnDisplayLine_keepsInputs (n : Nat) (s : State) : (turnOnDisplayLine n s).KeepsInputs s := by
  unfold turnOnDisplayLine; split <;> simp [Act.KeepsInputs, SameInputs, showRam]

theorem frameLoopLine_keepsInputs (src : Option Byte) (n : Nat) (s : State) : (frameLoopLine src n s).KeepsInputs s := by
  unfold frameLoopLine
  split
  case h_3 | h_6 | h_7 => split <;> simp [Act.KeepsInputs, SameInputs]
  all_goals simp [Act.KeepsInputs, SameInputs]

theorem displayLine_keepsInputs (n : Nat) (s : State) : (displayLine n s).KeepsInputs s := by
  unfold displayLine; split <;> simp [Act.KeepsInputs, SameInputs]

theorem attachLine_keepsInputs (n : Nat) (s : State) : (attachLine n s).KeepsInputs s := by
  unfold attachLine; split <;> simp [Act.KeepsInputs, SameInputs]

theorem powerDownLine_keepsInputs (n : Nat) (s : State) : (powerDownLine n s).KeepsInputs s := by
  unfold powerDownLine; split <;> simp [Act.KeepsInputs, SameInputs]

theorem teardownLine_keepsInputs (n : Nat) (s : State) : (teardownLine n s).KeepsInputs s := by
  unfold teardownLine; split <;> simp [Act.KeepsInputs, SameInputs]

theorem line_keepsInputs (s : State) : (line s).KeepsInputs s := by
  unfold line
  split
  · trivial
  · exact attachLine_keepsInputs _ s
  · exact initLine_keepsInputs _ s
  · exact setWindowLine_keepsInputs _ s
  · exact setCursorLine_keepsInputs _ s
  · exact turnOnDisplayLine_keepsInputs _ s
  · exact frameLoopLine_keepsInputs _ _ s
  · exact frameLoopLine_keepsInputs _ _ s
  · exact packLine_keepsInputs _ s
  · exact displayLine_keepsInputs _ s
  · exact powerDownLine_keepsInputs _ s
  · exact teardownLine_keepsInputs _ s
  · exact sendCommandLine_keepsInputs _ s
  · exact sendDataLine_keepsInputs _ s
  · exact waitIdleLine_keepsInputs _ s
  · exact resetSeqLine_keepsInputs _ s
  · exact loadLutLine_keepsInputs _ s

theorem line_silent_sameInputs {s t : State} (h : line s = .silent t) : SameInputs s t := by
  simpa [h, Act.KeepsInputs] using line_keepsInputs s

theorem line_ret_sameInputs {s t : State} (h : line s = .ret t) : SameInputs s t := by
  simpa [h, Act.KeepsInputs] using line_keepsInputs s

theorem line_raise_sameInputs {s t : State} {c : Cause} (h : line s = .raise c t) : SameInputs s t := by
  simpa [h, Act.KeepsInputs] using line_keepsInputs s

/-! ### Returns and answers -/

theorem initAfter_sameInputs (n : Nat) (s : State) : SameInputs s (initAfter n s) := by
  unfold initAfter; split <;> simp [SameInputs]

theorem setWindowAfter_sameInputs (n : Nat) (s : State) : SameInputs s (setWindowAfter n s) := by
  unfold setWindowAfter; split <;> simp [SameInputs, noteWindow]

theorem setCursorAfter_sameInputs (n : Nat) (s : State) : SameInputs s (setCursorAfter n s) := by
  unfold setCursorAfter; split <;> simp [SameInputs, noteCursorX, noteCursor]

theorem turnOnDisplayAfter_sameInputs (n : Nat) (s : State) : SameInputs s (turnOnDisplayAfter n s) := by
  unfold turnOnDisplayAfter; split <;> simp [SameInputs]

theorem frameLoopAfter_sameInputs (n : Nat) (s : State) : SameInputs s (frameLoopAfter n s) := by
  unfold frameLoopAfter; split <;> simp [SameInputs]

theorem loadLutAfter_sameInputs (n : Nat) (s : State) : SameInputs s (loadLutAfter n s) := by
  unfold loadLutAfter; split <;> simp [SameInputs]

theorem afterCall_sameInputs (r : Routine) (n : Nat) (s : State) : SameInputs s (afterCall r n s) := by
  unfold afterCall
  split
  · exact initAfter_sameInputs n s
  · exact setWindowAfter_sameInputs n s
  · exact setCursorAfter_sameInputs n s
  · exact turnOnDisplayAfter_sameInputs n s
  · exact frameLoopAfter_sameInputs n s
  · exact frameLoopAfter_sameInputs n s
  · exact loadLutAfter_sameInputs n s
  all_goals exact .refl s

theorem returnTo_sameInputs (f : PC) (fs : List PC) (s : State) : SameInputs s (returnTo f fs s) :=
  SameInputs.trans (by simp [SameInputs]) (afterCall_sameInputs f.routine (f.step - 1) ((s.setRs fs).setPc f))

theorem frameReceived_sameInputs (s : State) : SameInputs s (frameReceived s) := by simp [SameInputs, frameReceived]

theorem answered_sameInputs (s : State) : SameInputs s (answered s) := by
  unfold answered; split <;> simp [SameInputs, frameReceived, countPoll, heldInReset]

/-! ### The sequencer and the issue of a host operation -/

theorem settle_sameInputs {n : Nat} {s u : State} (h : settle n s = .next u) : SameInputs s u :=
  settle_keeps (SameInputs s)
    (fun _ _ hl hs => hs.trans (line_silent_sameInputs hl))
    (fun _ t hl _ hs => (hs.trans (line_ret_sameInputs hl)).trans (finish_sameInputs t))
    (fun _ t f fs hl _ hs => (hs.trans (line_ret_sameInputs hl)).trans (returnTo_sameInputs f fs t))
    (fun _ t c hl hs => (hs.trans (line_raise_sameInputs hl)).trans (raise_sameInputs c t.issuedCode t))
    n s u (.refl s) h

theorem sequencerStep_sameInputs {s u : State} (h : sequencerStep s = .next u) : SameInputs s u := by
  by_cases hl : ∃ r, line s = .ask r
  case neg => exact settle_sameInputs (sequencerStep_silent s (not_exists.mp hl) ▸ h)
  obtain ⟨r, hl⟩ := hl
  cases hf : s.failsAt s.hist.length with
  | false =>
    rw [sequencerStep_ok s r hl hf] at h
    exact (((requestEffect_sameInputs r _ s).trans (record_sameInputs _ _ _)).trans (answered_sameInputs _)).trans
      (settle_sameInputs h)
  | true =>
    rw [sequencerStep_failed s r hl hf] at h
    cases h
    exact (record_sameInputs r .fail s).trans (raise_sameInputs _ _ _)

theorem accept_sameInputs (op : HostOp) (s : State) : SameInputs s (accept op s) := by
  cases op <;> simp [SameInputs, accept, sample]

theorem issue_sameInputs {op : HostOp} {s u : State} (h : issue op s = .next u) : SameInputs s u := by
  cases hact : s.flags.active with
  | true => rw [issue_overlapping op s hact] at h; cases h
  | false =>
    cases hacc : acceptance op s with
    | some c => rw [issue_rejected op s c hact hacc] at h; cases h; exact raise_sameInputs c (some op.code) s
    | none => rw [issue_accepted op s hact hacc] at h; exact (accept_sameInputs op s).trans (settle_sameInputs h)

theorem issueReserved_sameInputs {code : BitVec 4} {s u : State} (h : issueReserved code s = .next u) : SameInputs s u := by
  unfold issueReserved at h
  split at h
  · cases h
  · cases h; exact raise_sameInputs _ _ s

/-! ### Packets -/

theorem sendFrame_sameInputs (dc : Level) (b : Byte) (s : State) : SameInputs s (sendFrame dc b s).state := by
  have hset : SameInputs s (s.setByte b) := by simp [SameInputs]
  exact Asked.bind_sameInputs (Asked.bind_sameInputs (Asked.bind_sameInputs (hset.trans (ask_sameInputs _ _))
    (ask_sameInputs _)) (ask_sameInputs _)) (ask_sameInputs _)

theorem recordShadow_sameInputs (k : PacketKind) (sent : List Byte) (s : State) : SameInputs s (recordShadow k sent s) := by
  unfold recordShadow; split <;> simp [SameInputs, noteWindow, noteCursorX, noteCursor]

theorem sendDataFrames_sameInputs (k : PacketKind) (sent bs : List Byte) (s : State) :
    SameInputs s (sendDataFrames k sent bs s).state := by
  induction bs generalizing sent s with
  | nil => exact .refl s
  | cons b bs ih =>
    exact Asked.bind_sameInputs (sendFrame_sameInputs _ b s) fun t =>
      ((frameReceived_sameInputs t).trans (recordShadow_sameInputs k (sent ++ [b]) _)).trans (ih _ _)

theorem sendPacket_sameInputs (k : PacketKind) (data : List Byte) (s : State) : SameInputs s (sendPacket k data s).state := by
  have hbegin : SameInputs s (s.setPanel (s.panel.begin k s.shadow)) := by simp [SameInputs]
  exact Asked.bind_sameInputs (hbegin.trans (sendFrame_sameInputs _ _ _)) (sendDataFrames_sameInputs k [] data)

theorem transmit_sameInputs {k : PacketKind} {data : List Byte} {s u : State} (h : transmit k data s = .next u) :
    SameInputs s u := by
  have hsend := sendPacket_sameInputs k data s
  cases hp : sendPacket k data s with
  | ok t => rw [transmit_ok k data s t hp] at h; cases h; simpa [hp] using hsend
  | failed q t =>
    rw [transmit_failed k data s t q hp] at h
    cases h
    exact SameInputs.trans (by simpa [hp] using hsend) (raise_sameInputs _ _ t)

/-! ### Instructions -/

/-- An instruction is the issue of a host operation, the issue of a reserved code, or the transmission of a packet. -/
theorem exec_cases (i : Instr) (s : State) :
    (∃ op, exec i s = issue op s) ∨ (∃ code, exec i s = issueReserved code s) ∨ ∃ k data, exec i s = transmit k data s := by
  cases i
  case attach | init | setWindow | setCursor | turnOnDisplay | writeFrame | clear | display | powerDown | teardown =>
    exact .inl ⟨_, rfl⟩
  case pack => exact .inl ⟨.pack, rfl⟩
  case reservedB | reservedC | reservedD | reservedE | reservedF => exact .inr (.inl ⟨_, rfl⟩)
  all_goals exact .inr (.inr ⟨_, _, exec_packet _ _ _ s rfl⟩)

theorem exec_sameInputs {i : Instr} {s u : State} (h : exec i s = .next u) : SameInputs s u := by
  obtain ⟨op, he⟩ | ⟨code, he⟩ | ⟨k, data, he⟩ := exec_cases i s <;> rw [he] at h
  · exact issue_sameInputs h
  · exact issueReserved_sameInputs h
  · exact transmit_sameInputs h

/-! ### The host's acts (R29, R40) -/

/-- A host write of a register other than `OP` changes the operand registers at most. -/
theorem hostWrite_next {reg v : Nat} {s t : State} (h : hostWrite reg v s = .next t) : t = s.setArgs t.args := by
  unfold hostWrite at h
  split at h
  · cases h
  · split at h <;> cases h <;> rfl

/-- The state from which the fetched act is performed. -/
def Fetched.state (s : State) : Fetched → State
  | .nothing => s
  | .code _ t => t
  | .write _ _ t => t
  | .image _ t => t

/-- Taking the oldest pending act changes the inbox only. -/
theorem fetch_state (s : State) : (fetch s).state s = s.setInbox s.inbox.tail := by
  unfold fetch
  split <;> rename_i hi <;> simp only [Fetched.state, hi, List.tail_cons]
  · rw [List.tail_nil, ← hi]; rfl

theorem fetch_state_cfg (s : State) : ((fetch s).state s).cfg = s.cfg := by rw [fetch_state, State.setInbox_cfg]

theorem step_cfg {s u : State} (h : step s = .next u) : u.cfg = s.cfg := by
  have hfetch := fetch_state_cfg s
  obtain ⟨-, hu⟩ | ⟨-, -, rfl⟩ | ⟨-, reg, v, t, hf, hu⟩ | ⟨-, img, t, hf, rfl⟩ | ⟨-, c, t, i, hf, -, hu⟩ := step_cases s u h
  · exact (sequencerStep_sameInputs hu).cfg_eq
  · rfl
  · rw [hf] at hfetch
    rw [hostWrite_next hu]
    exact hfetch
  · rw [hf] at hfetch
    exact hfetch
  · rw [hf] at hfetch
    exact (exec_sameInputs hu).cfg_eq.trans hfetch

/-! ### STATUS and CFG, bit by bit (R30, R32) -/

section StatusFields

variable (s : State)

/-- Every bit of `STATUS`: the code of `life`, then the four flags. -/
theorem statusByte_getLsbD (n : Nat) (h : n < 8) :
    (statusByte s).getLsbD n = if n < 4 then s.life.code.getLsbD n else
      [s.flags.active, s.flags.fbValid, s.flags.fault, s.flags.busySample].getD (n - 4) false := by
  simp only [statusByte, BitVec.getLsbD_setWidth, BitVec.getLsbD_append]
  interval_cases n <;> simp

theorem statusByte_life : (statusByte s).extractLsb' 0 4 = s.life.code := by
  ext i hi
  have hbit := statusByte_getLsbD s i (by omega)
  simpa [hi] using hbit

theorem statusByte_active : (statusByte s).getLsbD 4 = s.flags.active := statusByte_getLsbD s 4 (by decide)

theorem statusByte_fbValid : (statusByte s).getLsbD 5 = s.flags.fbValid := statusByte_getLsbD s 5 (by decide)

theorem statusByte_fault : (statusByte s).getLsbD 6 = s.flags.fault := statusByte_getLsbD s 6 (by decide)

theorem statusByte_busySample : (statusByte s).getLsbD 7 = s.flags.busySample := statusByte_getLsbD s 7 (by decide)

/-- `STATUS` does not depend on the operand registers, the only state a host write can change. -/
theorem statusByte_setArgs (a : Operands) : statusByte (s.setArgs a) = statusByte s := rfl

end StatusFields

section CfgFields

variable (c : Config)

/-- Every bit of `CFG`: three configuration bits, then zeros. -/
theorem cfgByte_getLsbD (n : Nat) (h : n < 8) :
    (cfgByte c).getLsbD n =
      [decide (c.lutSelect = .partialUpdate), c.portraitClearOnNonblack, c.busyTimeoutPolls.isSome].getD n false := by
  simp only [cfgByte, BitVec.getLsbD_setWidth, BitVec.getLsbD_append, beq_eq_decide]
  interval_cases n <;> simp

theorem cfgByte_lutSelect : (cfgByte c).getLsbD 0 = decide (c.lutSelect = .partialUpdate) := cfgByte_getLsbD c 0 (by decide)

theorem cfgByte_portraitClear : (cfgByte c).getLsbD 1 = c.portraitClearOnNonblack := cfgByte_getLsbD c 1 (by decide)

theorem cfgByte_pollLimit : (cfgByte c).getLsbD 2 = c.busyTimeoutPolls.isSome := cfgByte_getLsbD c 2 (by decide)

theorem cfgByte_unused : (cfgByte c).extractLsb' 3 5 = 0#5 := by
  ext i hi
  have hbit := cfgByte_getLsbD c (3 + i) (by omega)
  simpa using hbit

end CfgFields

end Sys2Proof.Machine

namespace Sys2Proof.Proofs

open Sys2Proof.Machine

/-- Settles O25: the fields of `CFG` one by one; a step's configuration is that of the act it takes, and every act keeps it. -/
theorem configurationIsConstant : Obligations.ConfigurationIsConstant :=
  ⟨fun s => ⟨cfgByte s.cfg, rfl, cfgByte_lutSelect s.cfg, cfgByte_portraitClear s.cfg, cfgByte_pollLimit s.cfg,
      cfgByte_unused s.cfg⟩,
    fun _ _ h => step_cfg h⟩

/-- Settles O23: the fields of `STATUS` one by one; a host write reaches the operand registers only. -/
theorem statusLayout : Obligations.StatusLayout := by
  refine ⟨fun s => ⟨statusByte s, rfl, statusByte_life s, statusByte_active s, statusByte_fbValid s, statusByte_fault s,
    statusByte_busySample s⟩, fun v s t h => ?_⟩
  rw [hostWrite_next h]
  simp only [hostRead, statusByte_setArgs]

end Sys2Proof.Proofs

/-! ## The field formulas (R95) -/

namespace Sys2Proof.Machine

/-- An operand's low byte, whatever the operand's width (R95). -/
theorem lo8_low16 (y : Nat) : (lo8 (low16 y)).toNat = y % 256 := by
  simp only [lo8, low16, BitVec.toNat_setWidth, BitVec.toNat_ofNat]; omega

/-- An operand's high byte, whatever the operand's width (R95). -/
theorem hi8_low16 (y : Nat) : (hi8 (low16 y)).toNat = y / 256 % 256 := by
  simp only [hi8, low16, BitVec.toNat_setWidth, BitVec.toNat_ushiftRight, BitVec.toNat_ofNat, Nat.shiftRight_eq_div_pow]; omega

/-- A pixel column of the panel lies in one of its sixteen byte-columns. -/
theorem xb_low16_lt (x : Nat) (h : x < 128) : (xb (low16 x)).toNat < 16 := by rw [xb_low16]; omega

/-- The high byte of a row of the panel is 0 or 1. -/
theorem hi8_low16_lt (y : Nat) (h : y < 296) : (hi8 (low16 y)).toNat < 2 := by rw [hi8_low16]; omega

end Sys2Proof.Machine

namespace Sys2Proof.Safety

open Sys2Proof.Machine

/-- The data bytes of `SetWindow(0,0,127,295)`, under any command bytes (R95's example). -/
theorem windowEvents_wholePanel (c : Config) :
    windowEvents c (low16 0) (low16 0) (low16 127) (low16 295) =
      packetEvents c.opSetRamXStartEnd [0x00#8, 0x0F#8] ++
      packetEvents c.opSetRamYStartEnd [0x00#8, 0x00#8, 0x27#8, 0x01#8] := rfl

end Sys2Proof.Safety

namespace Sys2Proof.Proofs

open Sys2Proof.Machine Sys2Proof.Safety

/-- Settles O5: each formula read off as arithmetic on the operand, its range from that; the constant and the examples are
closed words and evaluate. -/
theorem fieldFormulas : Obligations.FieldFormulas :=
  ⟨xb_low16, fun y => ⟨lo8_low16 y, hi8_low16 y⟩, by decide, xb_low16_lt, hi8_low16_lt, by decide, by decide,
    windowEvents_wholePanel⟩

end Sys2Proof.Proofs

/-! ## The packer, bit by bit (R217 to R222)

A step of the packer clears a set of panel pixels and touches no other. `ClearsExactly` says so of any change of `FB`; it holds
of one CLEARBIT, passes through the test of a pixel and through a loop, and so describes both paths of PACK. -/

namespace Sys2Proof.Machine

open Sys2Proof.Safety

/-- The only bit of the mask of column `n` is the one R222 reads in a column of the same place in its byte. -/
theorem pixelMask_getLsbD (n x : Nat) : (pixelMask n).getLsbD (7 - x % 8) = decide (x % 8 = n % 8) := by
  have hmsb : (0x80#8 : Byte) = BitVec.twoPow 8 7 := rfl
  rw [pixelMask, hmsb, BitVec.getLsbD_ushiftRight, BitVec.getLsbD_twoPow, Bool.eq_iff_iff]
  simp only [Bool.and_eq_true, decide_eq_true_eq]
  omega

/-- Every bit of the filled `FB` is 1 (R218). -/
@[simp] theorem fbBit_filledFb (x y : Nat) : fbBit filledFb x y = true := by
  have hread : filledFb.read (16 * y + x / 8) = BitVec.allOnes 8 := rfl
  have hplace : 7 - x % 8 < 8 := by omega
  rw [fbBit, hread, BitVec.getLsbD_allOnes, decide_eq_true hplace]

/-- `f` keeps the canonical form of `FB` and turns to 0 the bits of the panel pixels in `C`, and no others. -/
def ClearsExactly (f : Memory → Memory) (C : Nat → Nat → Prop) : Prop :=
  ∀ m : Memory, m.wf = true → (f m).wf = true ∧
    ∀ x y : Nat, x < 128 → (fbBit (f m) x y = false ↔ fbBit m x y = false ∨ C x y)

/-- CLEARBIT at the address and mask of a pixel clears that pixel alone (R219, R220). -/
theorem clearBit_clearsExactly (px py : Nat) (hx : px < 128) (hy : py < 296) :
    ClearsExactly (fun m => clearBit m (16 * py + px / 8) (pixelMask px)) (fun x y => x = px ∧ y = py) := by
  intro m hm
  refine ⟨clearBit_wf m _ _ (by simp only [Config.fbBytes]; omega) hm, fun x y hx' => ?_⟩
  by_cases hsame : 16 * y + x / 8 = 16 * py + px / 8
  case pos =>
    have hpixel : x % 8 = px % 8 ↔ x = px ∧ y = py := by omega
    have hplace : 7 - x % 8 < 8 := by omega
    rw [fbBit, fbBit, hsame, clearBit_read_self m _ _ (Memory.wf_rising m hm), BitVec.getLsbD_and, BitVec.getLsbD_not,
      pixelMask_getLsbD, Bool.and_eq_false_iff]
    simp [hpixel, hplace]
  case neg =>
    have hpixel : ¬(x = px ∧ y = py) := by rintro ⟨rfl, rfl⟩; exact hsame rfl
    rw [fbBit, fbBit, clearBit_read_ne m _ _ _ hsame]
    simp [hpixel]

/-- A change made on a condition only. -/
theorem ClearsExactly.ite {f : Memory → Memory} {C : Nat → Nat → Prop} (b : Bool) (h : ClearsExactly f C) :
    ClearsExactly (fun m => if b then f m else m) (fun x y => b = true ∧ C x y) := by
  cases b
  case true => simpa using h
  case false => exact fun m hm => ⟨hm, by simp⟩

/-- A loop clears what its rounds clear. -/
theorem ClearsExactly.foldl_range {f : Memory → Nat → Memory} {C : Nat → Nat → Nat → Prop} (n : Nat)
    (h : ∀ k < n, ClearsExactly (fun m => f m k) (C k)) :
    ClearsExactly (fun m => (List.range n).foldl f m) (fun x y => ∃ k < n, C k x y) := by
  induction n with
  | zero => exact fun m hm => ⟨hm, by simp⟩
  | succ n ih =>
    intro m hm
    obtain ⟨hwf, hbits⟩ := ih (fun k hk => h k (Nat.lt_succ_of_lt hk)) m hm
    obtain ⟨hwf', hbits'⟩ := h n (Nat.lt_succ_self n) _ hwf
    simp only [List.range_succ, List.foldl_append, List.foldl_cons, List.foldl_nil]
    refine ⟨hwf', fun x y hx => ?_⟩
    have hlast := hbits' x y hx
    rw [hbits x y hx, or_assoc] at hlast
    rw [hlast, Nat.exists_lt_succ_right]

/-- What a change clears of the filled `FB` is what reads 0 afterwards. -/
theorem ClearsExactly.from_filledFb {f : Memory → Memory} {C : Nat → Nat → Prop} (h : ClearsExactly f C) (x y : Nat)
    (hx : x < 128) : fbBit (f filledFb) x y = false ↔ C x y := by
  obtain ⟨-, hbits⟩ := h filledFb Memory.filled_wf
  simp [hbits x y hx]

/-! ### The two paths -/

theorem landscapePixel_clearsExactly (img : Image) (px py : Nat) (hx : px < 128) (hy : py < 296) :
    ClearsExactly (fun m => landscapePixel img py m px) (fun x y => blackAt img px py = true ∧ x = px ∧ y = py) := by
  have haddr : (px + py * Config.width) / 8 = 16 * py + px / 8 := by simp only [Config.width]; omega
  simp only [landscapePixel, haddr]
  exact (clearBit_clearsExactly px py hx hy).ite _

/-- The landscape path: panel pixel `(X, Y)` is cleared by image pixel `(X, Y)` alone (R219). -/
theorem packLandscape_bit (img : Image) (x y : Nat) (hx : x < 128) (hy : y < 296) :
    fbBit (packLandscape img) x y = false ↔ blackAt img x y = true := by
  have hloops := ClearsExactly.foldl_range (f := landscapeRow img) 296 fun py hy =>
    ClearsExactly.foldl_range 128 fun px hx => landscapePixel_clearsExactly img px py hx hy
  refine (hloops.from_filledFb x y hx).trans ⟨?_, fun hblack => ⟨y, hy, x, hx, hblack, rfl, rfl⟩⟩
  rintro ⟨_, _, _, _, hblack, rfl, rfl⟩
  exact hblack

/-- The rotation of R220: image pixel `(ix, iy)` of the portrait path goes to panel pixel `(iy, 295 - ix)`. -/
theorem portraitPixel_clearsExactly (flag : Bool) (img : Image) (ix iy : Nat) (hx : ix < 296) (hy : iy < 128) :
    ClearsExactly (fun m => portraitPixel flag img iy m ix)
      (fun x y => portraitHit flag (blackAt img ix iy) = true ∧ x = iy ∧ y = 295 - ix) := by
  have haddr : (iy + (Config.height - ix - 1) * Config.width) / 8 = 16 * (295 - ix) + iy / 8 := by
    simp only [Config.height, Config.width]; omega
  simp only [portraitPixel, haddr]
  exact (clearBit_clearsExactly iy (295 - ix) hy (by omega)).ite _

/-- The portrait path: panel pixel `(X, Y)` is cleared by image pixel `(295 - Y, X)` alone (R220, R221). -/
theorem packPortrait_bit (flag : Bool) (img : Image) (x y : Nat) (hx : x < 128) (hy : y < 296) :
    fbBit (packPortrait flag img) x y = false ↔ portraitHit flag (blackAt img (295 - y) x) = true := by
  have hloops := ClearsExactly.foldl_range (f := portraitRow flag img) 128 fun iy hy =>
    ClearsExactly.foldl_range 296 fun ix hx => portraitPixel_clearsExactly flag img ix iy hx hy
  refine (hloops.from_filledFb x y hx).trans ⟨?_, fun hhit => ⟨x, hx, 295 - y, by omega, hhit, rfl, by omega⟩⟩
  rintro ⟨_, _, ix, hix, hhit, rfl, rfl⟩
  rwa [show 295 - (295 - ix) = ix by omega]

end Sys2Proof.Machine

namespace Sys2Proof.Proofs

open Sys2Proof.Machine

/-- Settles O48: each path clears a panel pixel from the one image pixel its bit formula names; the flag picks which colour
clears on the portrait path (R221). -/
theorem packClosedForm : Obligations.PackClosedForm := by
  refine fun flag img => ⟨packLandscape img, packPortrait flag img, rfl, rfl, fun x y hx hy =>
    ⟨packLandscape_bit img x y hx hy, ?_, ?_⟩⟩
  · rintro rfl
    rw [packPortrait_bit true img x y hx hy]
    simp [portraitHit]
  · rintro rfl
    rw [packPortrait_bit false img x y hx hy]
    simp [portraitHit]

end Sys2Proof.Proofs

/-! ## The busy wait (R134, R135, R282)

A poll or a delay of WAIT_IDLE is one step: it is answered, and the sequencer settles on its next request. A poll that reads `LOW`
makes WAIT_IDLE return; from there the sequencer passes only through the lines of `afterWaitLines`, none of them in WAIT_IDLE. -/

namespace Sys2Proof.Machine

open Sys2Proof.Safety

section WaitIdleLines

variable {s : State}

theorem line_poll (hpc : s.pc = ⟨.waitIdle, 1⟩) : line s = .ask .pinRead := by simp [line, waitIdleLine, hpc]

theorem line_testLow (hpc : s.pc = ⟨.waitIdle, 2⟩) (hlow : s.flags.busySample = false) : line s = .ret s := by
  simp [line, waitIdleLine, hpc, hlow]

theorem line_testHigh (hpc : s.pc = ⟨.waitIdle, 2⟩) (hhigh : s.flags.busySample = true) : line s = .silent s.advance := by
  simp [line, waitIdleLine, hpc, hhigh]

theorem line_pollDelay (hpc : s.pc = ⟨.waitIdle, 3⟩) (hpolls : pollsExhausted s = false) : line s = .ask (.delay 200) := by
  simp [line, waitIdleLine, hpc, hpolls]

theorem line_pollsExhausted (hpc : s.pc = ⟨.waitIdle, 3⟩) (hpolls : pollsExhausted s = true) :
    line s = .raise .hardwareNeverIdle s := by
  simp [line, waitIdleLine, hpc, hpolls]

theorem line_pollAgain (hpc : s.pc = ⟨.waitIdle, 4⟩) : line s = .silent (s.goto 1) := by simp [line, waitIdleLine, hpc]

/-- A sequencer that waits for a request at the delay line has polls left: an exhausted wait raises there instead (R135). -/
theorem pollsExhausted_of_atRequest (hpc : s.pc = ⟨.waitIdle, 3⟩) (hreq : atRequest s = true) : pollsExhausted s = false := by
  cases hpolls : pollsExhausted s with
  | false => rfl
  | true => simp [atRequest, line_pollsExhausted hpc hpolls] at hreq

/-- Only a configured limit is ever reached (R134, R135). -/
theorem pollLimit_of_pollsExhausted (hpolls : pollsExhausted s = true) : s.cfg.busyTimeoutPolls ≠ none := by
  intro hnone
  simp [pollsExhausted, hnone] at hpolls

end WaitIdleLines

/-! ### What a step of WAIT_IDLE does -/

/-- WAIT_IDLE after its poll was answered, about to test the sample (R134 S2). -/
def State.polled (s : State) : State :=
  ((requestEffect .pinRead (s.busyAt s.hist.length) s).record .pinRead (.level (s.busyAt s.hist.length))).advance

@[simp] theorem State.polled_hist (s : State) :
    s.polled.hist = s.hist ++ [⟨.pinRead, .level (s.busyAt s.hist.length)⟩] := rfl
@[simp] theorem State.polled_rs (s : State) : s.polled.rs = s.rs := rfl
@[simp] theorem State.polled_active (s : State) : s.polled.flags.active = s.flags.active := rfl
@[simp] theorem State.polled_busySample (s : State) : s.polled.flags.busySample = (s.busyAt s.hist.length).toBool := rfl

theorem State.polled_pc {s : State} (hpc : s.pc = ⟨.waitIdle, 1⟩) : s.polled.pc = ⟨.waitIdle, 2⟩ := by simp [State.polled, hpc]

section WaitIdleSteps

variable {s : State} (hact : s.flags.active = true) (hf : s.failsAt s.hist.length = false)

include hact hf

theorem step_poll (hpc : s.pc = ⟨.waitIdle, 1⟩) : step s = settle settleFuel s.polled := by
  rw [step_active s hact, sequencerStep_ok s _ (line_poll hpc) hf]
  simp [answered, hpc, State.polled, okReply]

/-- A poll that reads `HIGH` goes on to the delay line. -/
theorem step_pollHigh (hpc : s.pc = ⟨.waitIdle, 1⟩) (hhigh : s.busyAt s.hist.length = .high) :
    step s = settle 15 s.polled.advance :=
  (step_poll hact hf hpc).trans
    (settle_silent 15 _ _ (line_testHigh (State.polled_pc hpc) (by simp [hhigh, Level.toBool])))

/-- With polls left it waits there for the delay. -/
theorem step_pollHigh_waits (hpc : s.pc = ⟨.waitIdle, 1⟩) (hhigh : s.busyAt s.hist.length = .high)
    (hpolls : pollsExhausted s = false) : step s = .next s.polled.advance :=
  (step_pollHigh hact hf hpc hhigh).trans (settle_ask 14 _ _ (line_pollDelay (by simp [State.polled_pc hpc]) hpolls))

/-- With its polls used up it ends the operation (R135). -/
theorem step_pollHigh_exhausted (hpc : s.pc = ⟨.waitIdle, 1⟩) (hhigh : s.busyAt s.hist.length = .high)
    (hpolls : pollsExhausted s = true) :
    step s = .next (raise .hardwareNeverIdle s.polled.advance.issuedCode s.polled.advance) :=
  (step_pollHigh hact hf hpc hhigh).trans (settle_raise 14 _ _ _ (line_pollsExhausted (by simp [State.polled_pc hpc]) hpolls))

/-- The delay line counts its poll and goes back to the poll (R134). -/
theorem step_pollDelay (hpc : s.pc = ⟨.waitIdle, 3⟩) (hpolls : pollsExhausted s = false) :
    step s = .next ((countPoll (s.record (.delay 200) .ok)).advance.goto 1) := by
  have hagain := line_pollAgain (s := (countPoll (s.record (.delay 200) .ok)).advance) (by simp [countPoll, hpc])
  have hpoll := line_poll (s := (countPoll (s.record (.delay 200) .ok)).advance.goto 1) (by simp [countPoll, hpc])
  have hanswered : step s = settle settleFuel (countPoll (s.record (.delay 200) .ok)).advance := by
    rw [step_active s hact, sequencerStep_ok s _ (line_pollDelay hpc hpolls) hf]
    simp [answered, hpc, okReply]
  exact hanswered.trans ((settle_silent 15 _ _ hagain).trans (settle_ask 14 _ _ hpoll))

end WaitIdleSteps

/-! ### The end of a wait -/

/-- WAIT_IDLE, and the routines that call it, directly or through a routine they call. -/
def waitingRoutines : List Routine := [.waitIdle, .op .setCursor, .op .turnOnDisplay, .op .writeFrame, .op .clear, .op .display]

/-- The lines after the calls of such a routine. -/
def afterWaitLines : List PC :=
  [⟨.op .setCursor, 6⟩, ⟨.op .turnOnDisplay, 5⟩, ⟨.op .writeFrame, 10⟩, ⟨.op .clear, 10⟩, ⟨.op .display, 2⟩,
    ⟨.op .writeFrame, 4⟩, ⟨.op .clear, 4⟩]

theorem routine_ne_waitIdle_of_afterWait {f : PC} (h : f ∈ afterWaitLines) : f.routine ≠ .waitIdle := by
  revert f; decide

/-- Every call of a waiting routine has its return address in `afterWaitLines` (R27). -/
theorem afterWait_of_callee {r q : Routine} {n : Nat} (hcall : callee r n = some q) (hq : q ∈ waitingRoutines) :
    ⟨r, n + 1⟩ ∈ afterWaitLines := by
  unfold callee at hcall
  split at hcall <;> cases hcall <;> revert hq <;> decide

/-- The call that returns to a line of `afterWaitLines` leaves no rest of its own line to do. -/
theorem returnTo_afterWait {f : PC} (h : f ∈ afterWaitLines) (fs : List PC) (s : State) :
    returnTo f fs s = (s.setRs fs).setPc f := by
  simp only [afterWaitLines, List.mem_cons, List.not_mem_nil, or_false] at h
  rcases h with rfl | rfl | rfl | rfl | rfl | rfl | rfl <;> rfl

/-- A waiting routine returns to a line of `afterWaitLines`, in a chain of the microprogram again. -/
theorem afterWait_of_chainOk {r : Routine} {f : PC} {fs : List PC} (hr : r ∈ waitingRoutines) (h : chainOk r (f :: fs) = true) :
    f ∈ afterWaitLines ∧ chainOk f.routine fs = true := by
  obtain ⟨routine, step⟩ := f
  simp only [chainOk, Bool.and_eq_true, decide_eq_true_eq] at h
  obtain ⟨⟨hstep, hcall⟩, hchain⟩ := h
  have hmem := afterWait_of_callee hcall hr
  rw [Nat.sub_add_cancel hstep] at hmem
  exact ⟨hmem, hchain⟩

/-- A line of `afterWaitLines` ends a waiting routine, or begins the write-RAM packet of the next row (R181 S4). -/
theorem line_afterWait {s : State} (h : s.pc ∈ afterWaitLines) :
    (s.pc.routine ∈ waitingRoutines ∧ ∃ t, line s = .ret t ∧ t.rs = s.rs ∧ t.hist = s.hist) ∨
      line s = .silent (s.callCommand .writeRam) := by
  simp only [afterWaitLines, List.mem_cons, List.not_mem_nil, or_false] at h
  rcases h with hpc | hpc | hpc | hpc | hpc | hpc | hpc <;> simp only [line, hpc]
  iterate 5 exact .inl ⟨by decide, _, rfl, rfl, rfl⟩
  all_goals exact .inr rfl

theorem line_sendCommand_dc {s : State} (hpc : s.pc = ⟨.sendCommand, 0⟩) : line s = .ask (.pinWrite .dc .low) := by
  simp [line, sendCommandLine, hpc]

/-- From a line of `afterWaitLines` the sequencer settles outside WAIT_IDLE, without a request. -/
theorem settle_afterWait {n : Nat} {s u : State} (hpc : s.pc ∈ afterWaitLines) (hchain : chainOk s.pc.routine s.rs = true)
    (h : settle n s = .next u) : u.hist = s.hist ∧ u.pc.routine ≠ .waitIdle := by
  induction n generalizing s with
  | zero => cases h; exact ⟨rfl, routine_ne_waitIdle_of_afterWait hpc⟩
  | succ n ih =>
    obtain ⟨hr, t, hl, hrs, hhist⟩ | hl := line_afterWait hpc
    · cases hstack : s.rs with
      | nil =>
        rw [settle_ret_nil n s t hl (hrs.trans hstack)] at h
        cases h
        exact ⟨hhist, nofun⟩
      | cons f fs =>
        obtain ⟨hf, hchain'⟩ := afterWait_of_chainOk hr (hstack ▸ hchain)
        rw [settle_ret_cons n s t f fs hl (hrs.trans hstack), returnTo_afterWait hf] at h
        exact hhist ▸ ih (s := (t.setRs fs).setPc f) hf hchain' h
    · rw [settle_silent n s _ hl] at h
      cases n with
      | zero => cases h; exact ⟨rfl, nofun⟩
      | succ n =>
        rw [settle_ask n _ _ (line_sendCommand_dc rfl)] at h
        cases h
        exact ⟨rfl, nofun⟩

/-- A poll that reads `LOW` ends the wait: the sequencer settles outside WAIT_IDLE, without another request (R134). -/
theorem step_pollLow {s t : State} (hact : s.flags.active = true) (hf : s.failsAt s.hist.length = false)
    (hpc : s.pc = ⟨.waitIdle, 1⟩) (hchain : chainOk .waitIdle s.rs = true) (hlow : s.busyAt s.hist.length = .low)
    (h : step s = .next t) : t.hist = s.polled.hist ∧ t.pc.routine ≠ .waitIdle := by
  have htest : line s.polled = .ret s.polled := line_testLow (State.polled_pc hpc) (by simp [hlow, Level.toBool])
  cases hrs : s.rs with
  | nil => simp [hrs, chainOk] at hchain
  | cons f fs =>
    obtain ⟨hmem, hchain'⟩ := afterWait_of_chainOk (by decide) (hrs ▸ hchain)
    have hret : step s = settle 15 ((s.polled.setRs fs).setPc f) :=
      (step_poll hact hf hpc).trans
        ((settle_ret_cons 15 _ _ f fs htest hrs).trans (congrArg (settle 15) (returnTo_afterWait hmem fs _)))
    exact settle_afterWait (s := (s.polled.setRs fs).setPc f) hmem hchain' (hret ▸ h)

end Sys2Proof.Machine

namespace Sys2Proof.Proofs

open Sys2Proof.Machine Sys2Proof.Safety

/-- Settles O35: the next state is known at each of the three points of the wait; after a `LOW` read the call chain of the
invariant names the lines the sequencer can return to. -/
theorem waitReturnsOnLow : Obligations.WaitReturnsOnLow := by
  intro s t hinv hact hf hstep
  obtain ⟨hseq, -⟩ := hinv
  simp only [seqInv, hact, if_true] at hseq
  obtain ⟨hreq, hchain, -, -⟩ := hseq
  refine ⟨fun hpc hlow => ?_, fun hpc hhigh => ?_, fun hpc => ?_⟩
  · obtain ⟨hhist, hleft⟩ := step_pollLow hact hf hpc (by rwa [hpc] at hchain) hlow hstep
    exact ⟨by simp [hhist, hlow], hleft⟩
  · cases hpolls : pollsExhausted s with
    | false =>
      rw [step_pollHigh_waits hact hf hpc hhigh hpolls] at hstep
      cases hstep
      exact ⟨by simp [hhigh], .inl ⟨by simp [State.polled_pc hpc], rfl, hact⟩⟩
    | true =>
      rw [step_pollHigh_exhausted hact hf hpc hhigh hpolls] at hstep
      cases hstep
      exact ⟨by simp [hhigh], .inr ⟨pollLimit_of_pollsExhausted hpolls, rfl, rfl⟩⟩
  · rw [step_pollDelay hact hf hpc (pollsExhausted_of_atRequest hpc hreq)] at hstep
    cases hstep
    exact ⟨rfl, by simp [countPoll, hpc], rfl, hact⟩

end Sys2Proof.Proofs

/-! ## Encoding and decoding (R93, R94, R97, R99) -/

namespace Sys2Proof

/-- The packet an instruction stands for is the one its kind and data bytes give (R94). -/
theorem packetInstr_of_packetParts {i : Instr} {k : PacketKind} {data : List Byte} (hwf : i.wf = true)
    (h : i.packetParts = some (k, data)) : packetInstr k data = some i := by
  cases i <;> simp only [Instr.packetParts, Option.some.injEq, Prod.mk.injEq, reduceCtorEq] at h <;> obtain ⟨rfl, rfl⟩ := h
  case pktWriteLut | pktWriteRam => exact if_pos (by simpa [Instr.wf] using hwf)
  all_goals rfl

/-- A packet instruction is well formed and has the kind and the data bytes it was made from (R94). -/
theorem packetParts_of_packetInstr {i : Instr} {k : PacketKind} {data : List Byte} (h : packetInstr k data = some i) :
    i.wf = true ∧ i.packetParts = some (k, data) := by
  cases k
  case writeLut =>
    obtain ⟨hlen, h⟩ := (Option.ite_none_right_eq_some (p := data.length = 30)).mp h
    cases h
    exact ⟨by simpa [Instr.wf] using hlen, rfl⟩
  case writeRam =>
    obtain ⟨hlen, h⟩ := (Option.ite_none_right_eq_some (p := data.length = 16)).mp h
    cases h
    exact ⟨by simpa [Instr.wf] using hlen, rfl⟩
  all_goals
    rcases data with _ | ⟨a, _ | ⟨b, _ | ⟨d, _ | ⟨e, _ | ⟨g, rest⟩⟩⟩⟩⟩ <;> cases h
    exact ⟨rfl, rfl⟩

/-- The code of a packet instruction is its command byte and its data bytes (R93). -/
theorem encode_of_packetParts (c : Config) {i : Instr} {k : PacketKind} {data : List Byte} (h : i.packetParts = some (k, data)) :
    encode c i = .packet (commandByte c k :: data) := by
  cases i <;> simp only [Instr.packetParts, Option.some.injEq, Prod.mk.injEq, reduceCtorEq] at h <;> obtain ⟨rfl, rfl⟩ := h <;> rfl

/-- The code of every other instruction is a host word that decodes to it (R97, R99). -/
theorem encode_of_no_packetParts (c : Config) {i : Instr} (h : i.packetParts = none) :
    ∃ op, encode c i = .host op ∧ decodeHost op = i := by
  cases i <;> simp only [Instr.packetParts, reduceCtorEq] at h <;> exact ⟨_, rfl, rfl⟩

/-- Every host word is the code of the instruction it decodes to (R97, R99). -/
theorem encode_decodeHost (c : Config) (op : BitVec 4) : (decodeHost op).wf = true ∧ encode c (decodeHost op) = .host op := by
  obtain ⟨⟨n, hn⟩⟩ := op
  interval_cases n <;> exact ⟨rfl, rfl⟩

/-- Where no two elements of a list have the same value under `f`, the value finds its own element. -/
theorem find?_of_nodup_map {α β : Type} [BEq β] [LawfulBEq β] (f : α → β) {l : List α} (hl : (l.map f).Nodup) {a : α}
    (ha : a ∈ l) : l.find? (fun x => f x == f a) = some a := by
  induction l with
  | nil => cases ha
  | cons b l ih =>
    rw [List.map_cons, List.nodup_cons] at hl
    obtain ⟨hb, hl⟩ := hl
    rcases List.mem_cons.mp ha with rfl | ha
    · simp
    · have hne : ¬ f b = f a := fun he => hb (he ▸ List.mem_map_of_mem ha)
      simpa [hne] using ih hl ha

/-- With distinct command bytes each command byte names its own kind (R94). -/
theorem kindOf_commandByte {c : Config} (h : c.distinctCommands = true) (k : PacketKind) : kindOf c (commandByte c k) = some k :=
  find?_of_nodup_map (commandByte c) (l := allKinds) (of_decide_eq_true h) (by cases k <;> decide)

/-- The kind found for a byte has that byte as its command byte. -/
theorem commandByte_of_kindOf {c : Config} {b : Byte} {k : PacketKind} (h : kindOf c b = some k) : commandByte c k = b := by
  simpa using List.find?_some h

/-- All an accepted packet can be: a command byte of a kind, and data bytes that make an instruction of that kind. -/
theorem decodePacket_ok {c : Config} {bytes : List Byte} {i : Instr} (h : decodePacket c bytes = .ok i) :
    ∃ k data, bytes = commandByte c k :: data ∧ packetInstr k data = some i := by
  unfold decodePacket at h
  split at h
  case h_1 => cases h
  case h_2 b data =>
    split at h
    case h_1 => cases h
    case h_2 k hk =>
      split at h
      case h_1 i' hi => cases h; exact ⟨k, data, by rw [commandByte_of_kindOf hk], hi⟩
      case h_2 => cases h

end Sys2Proof

namespace Sys2Proof.Proofs

open Sys2Proof.Machine

/-- Settles O1: a host word decodes by the table; a packet's command byte finds its own kind, whose data bytes make the
instruction. -/
theorem decodeEncodeRoundTrip : Obligations.DecodeEncodeRoundTrip := by
  intro c i hdistinct hwf
  cases hp : i.packetParts with
  | none =>
    obtain ⟨op, henc, hdec⟩ := encode_of_no_packetParts c hp
    rw [henc, ← hdec]; rfl
  | some p =>
    obtain ⟨k, data⟩ := p
    rw [encode_of_packetParts c hp]
    simp only [decode, decodePacket, kindOf_commandByte hdistinct, packetInstr_of_packetParts hwf hp]

/-- Settles O2: the decoder drops no bit of a host word, and of a packet neither the command byte nor a data byte. -/
theorem decodedIsEncoded : Obligations.DecodedIsEncoded := by
  intro c x i h
  cases x with
  | host op => cases h; exact encode_decodeHost c op
  | packet bytes =>
    obtain ⟨k, data, rfl, hi⟩ := decodePacket_ok h
    obtain ⟨hwf, hparts⟩ := packetParts_of_packetInstr hi
    exact ⟨hwf, encode_of_packetParts c hparts⟩

/-- Settles O3: closed words, evaluated. -/
theorem specWordsDecode : Obligations.SpecWordsDecode := by
  unfold Obligations.SpecWordsDecode
  decide

end Sys2Proof.Proofs

/-! ## Captured histories (R92, R93, R96) -/

namespace Sys2Proof

open Sys2Proof.Machine Sys2Proof.Safety

theorem filter_framing_frames (fs : List Frame) :
    (fs.flatMap frameEvents).filter Event.framing = fs.flatMap frameEvents := by
  rw [List.filter_eq_self]
  intro e he
  obtain ⟨f, -, he⟩ := List.mem_flatMap.mp he
  simp only [frameEvents, List.mem_cons, List.not_mem_nil, or_false] at he
  rcases he with rfl | rfl | rfl | rfl <;> rfl

/-- Whole frames are read back, whatever parses behind them. -/
theorem parseFrames_frame (f : Frame) (es : List Event) :
    parseFrames (frameEvents f ++ es) = (parseFrames es).map (fun fs => f :: fs) := by
  simp [frameEvents, parseFrames]

theorem parseFrames_frames (fs : List Frame) : parseFrames (fs.flatMap frameEvents) = some fs := by
  induction fs with
  | nil => rfl
  | cons f fs ih => rw [List.flatMap_cons, parseFrames_frame, ih]; rfl

/-- Data frames before anything else belong to the packet under way. -/
theorem groupFrames_data (data : List Byte) (fs : List Frame) :
    groupFrames (data.map (fun b => ⟨.high, b⟩) ++ fs) = (data ++ (groupFrames fs).1, (groupFrames fs).2) := by
  induction data with
  | nil => rfl
  | cons b data ih => simp [groupFrames, ih]

theorem groupFrames_packets (ps : List RawPacket) :
    groupFrames (ps.flatMap (fun p => packetFrames p.cmd p.data)) = ([], ps) := by
  induction ps with
  | nil => rfl
  | cons p ps ih =>
    rw [List.flatMap_cons, packetFrames, List.cons_append]
    simp [groupFrames, groupFrames_data, ih]

/-- The events of packets are those of their frames. -/
theorem packetEvents_flatMap (ps : List RawPacket) : ps.flatMap (fun p => packetEvents p.cmd p.data) =
    (ps.flatMap (fun p => packetFrames p.cmd p.data)).flatMap frameEvents := by
  simp only [packetEvents, List.flatMap_assoc]

/-- The events seen of the frame under way. -/
def framePending : FrameState → List Event → Prop
  | .between, es => es = []
  | .dcWritten d, es => es = [⟨.pinWrite .dc d, .ok⟩]
  | .csLow d, es => es = [⟨.pinWrite .dc d, .ok⟩, ⟨.pinWrite .cs .low, .ok⟩]
  | .byteSent d, es => ∃ b, es = [⟨.pinWrite .dc d, .ok⟩, ⟨.pinWrite .cs .low, .ok⟩, ⟨.spiWrite b, .ok⟩]
  | .broken, _ => False

theorem foldl_frameNext_broken (hist : List Event) : hist.foldl frameNext .broken = .broken := by
  induction hist with
  | nil => rfl
  | cons e hist ih => exact ih

/-- One event: dropped by the decoder, or one more of the frame under way, or the last of that frame. -/
theorem framePending_next {f : FrameState} {es : List Event} (hp : framePending f es) (e : Event)
    (hne : frameNext f e ≠ .broken) :
    (e.framing = false ∧ framePending (frameNext f e) es) ∨
    (e.framing = true ∧ framePending (frameNext f e) (es ++ [e])) ∨
    (e.framing = true ∧ frameNext f e = .between ∧ ∃ g, es ++ [e] = frameEvents g) := by
  revert hp hne
  unfold frameNext
  split <;> intro hp hne
  case h_1 => exact .inr (.inl ⟨rfl, by cases hp; rfl⟩)
  case h_7 | h_9 => exact .inr (.inl ⟨rfl, by cases hp; first | rfl | exact ⟨_, rfl⟩⟩)
  case h_10 => obtain ⟨b, rfl⟩ := hp; exact .inr (.inr ⟨rfl, rfl, ⟨_, b⟩, rfl⟩)
  case h_11 => exact absurd rfl hne
  all_goals exact .inl ⟨rfl, hp⟩

/-- A history that ends between frames, or after TEARDOWN's write of `DC`, parses behind what is seen of the frame under way. -/
theorem parseFrames_of_frameState (hist : List Event) (f : FrameState) (es : List Event) (hp : framePending f es)
    (h : hist.foldl frameNext f = .between ∨ hist.foldl frameNext f = .dcWritten .low) :
    ∃ fs, parseFrames (es ++ hist.filter Event.framing) = some fs := by
  induction hist generalizing f es with
  | nil => rcases h with rfl | rfl <;> cases hp <;> exact ⟨[], rfl⟩
  | cons e hist ih =>
    rw [List.foldl_cons] at h
    have hne : frameNext f e ≠ .broken := by
      intro hb
      rw [hb, foldl_frameNext_broken] at h
      rcases h with h | h <;> cases h
    obtain ⟨hfr, hp'⟩ | ⟨hfr, hp'⟩ | ⟨hfr, hbetween, g, hg⟩ := framePending_next hp e hne
    · rw [List.filter_cons_of_neg (by simp [hfr])]
      exact ih _ _ hp' h
    · rw [List.filter_cons_of_pos hfr, List.append_cons]
      exact ih _ _ hp' h
    · obtain ⟨fs, hfs⟩ := ih _ [] (by rw [hbetween]; rfl) h
      rw [List.filter_cons_of_pos hfr, List.append_cons, hg, parseFrames_frame]
      exact ⟨g :: fs, by rw [← List.nil_append (hist.filter _), hfs]; rfl⟩

end Sys2Proof

namespace Sys2Proof.Proofs

open Sys2Proof.Machine Sys2Proof.Safety

/-- Settles O4: the frames are read back one by one, and each command frame begins its own packet. -/
theorem packetStreamDecodes : Obligations.PacketStreamDecodes := by
  intro ps
  rw [packetEvents_flatMap, decodeHistory, filter_framing_frames, parseFrames_frames]
  simp [groupFrames_packets]

/-- Settles O10: by induction on the history, with what is seen of the frame under way. -/
theorem framedHistoryParses : Obligations.FramedHistoryParses := fun hist h =>
  parseFrames_of_frameState hist .between [] rfl h

end Sys2Proof.Proofs

/-! ## Canonical memories (R35, R61) -/

namespace Sys2Proof.Machine

/-- A listed byte is found at its address, in a rising memory. -/
theorem Memory.lookup_cons_self (c : Host.Cell) (m : Memory) : Memory.lookup (c :: m) c.1 = some c.2 := by simp [Memory.lookup]

/-- Rising memories that list the same bytes are equal. -/
theorem Memory.eq_of_lookup_eq {m n : Memory} (hm : m.rising = true) (hn : n.rising = true)
    (h : ∀ a, m.lookup a = n.lookup a) : m = n := by
  induction m generalizing n with
  | nil =>
    cases n with
    | nil => rfl
    | cons d ds =>
      have hd := h d.1
      rw [Memory.lookup_cons_self] at hd
      cases hd
  | cons c cs ih =>
    cases n with
    | nil =>
      have hc := h c.1
      rw [Memory.lookup_cons_self] at hc
      cases hc
    | cons d ds =>
      obtain ⟨habove, hcs⟩ := (Memory.rising_cons c cs).mp hm
      obtain ⟨habove', hds⟩ := (Memory.rising_cons d ds).mp hn
      have haddr : c.1 = d.1 := by
        rcases Nat.lt_trichotomy c.1 d.1 with hlt | heq | hlt
        · have hc := h c.1
          rw [Memory.lookup_cons_self, Memory.lookup_none_of_above (d :: ds) c.1 (by
            intro e he
            rcases List.mem_cons.mp he with rfl | he
            · exact hlt
            · exact Nat.lt_trans hlt (habove' e he))] at hc
          cases hc
        · exact heq
        · have hd := h d.1
          rw [Memory.lookup_cons_self, Memory.lookup_none_of_above (c :: cs) d.1 (by
            intro e he
            rcases List.mem_cons.mp he with rfl | he
            · exact hlt
            · exact Nat.lt_trans hlt (habove e he))] at hd
          cases hd
      have hbyte : c.2 = d.2 := by
        have hc := h c.1
        rw [Memory.lookup_cons_self, haddr, Memory.lookup_cons_self] at hc
        exact Option.some.inj hc
      have htail : ∀ a, Memory.lookup cs a = Memory.lookup ds a := by
        intro a
        by_cases ha : c.1 = a
        · rw [Memory.lookup_none_of_above cs a (ha ▸ habove), Memory.lookup_none_of_above ds a (ha ▸ haddr ▸ habove')]
        · have hca := h a
          simpa [Memory.lookup, ha, haddr ▸ ha] using hca
      rw [Prod.ext haddr hbyte, ih hcs hds htail]

/-- A canonical memory lists no byte equal to what an unlisted address reads as. -/
theorem Memory.wf_lookup_ne_default {m : Memory} (hm : m.wf = true) (a : Nat) : m.lookup a ≠ some fbDefault := by
  simp only [Memory.wf, Bool.and_eq_true, List.all_eq_true, decide_eq_true_eq] at hm
  obtain ⟨-, hall⟩ := hm
  induction m with
  | nil => simp [Memory.lookup]
  | cons c cs ih =>
    simp only [Memory.lookup]
    split
    · intro h
      exact (hall c List.mem_cons_self).2 (Option.some.inj h)
    · exact ih fun d hd => hall d (List.mem_cons_of_mem _ hd)

/-- What a canonical memory lists at an address follows from what it reads there. -/
theorem Memory.wf_lookup_eq {m : Memory} (hm : m.wf = true) (a : Nat) :
    m.lookup a = if m.read a = fbDefault then none else some (m.read a) := by
  have hne := Memory.wf_lookup_ne_default hm a
  unfold Memory.read
  cases hl : m.lookup a with
  | none => simp
  | some b =>
    rw [hl] at hne
    have hb : b ≠ fbDefault := fun e => hne (e ▸ rfl)
    simp [hb]

end Sys2Proof.Machine

namespace Sys2Proof.Proofs

open Sys2Proof.Machine

/-- Settles O12: what a canonical memory reads at an address tells what it lists there, and a rising list is its listing. -/
theorem canonicalMemoryUnique : Obligations.CanonicalMemoryUnique := by
  intro m n hm hn h
  refine Memory.eq_of_lookup_eq (Memory.wf_rising m hm) (Memory.wf_rising n hn) fun a => ?_
  rw [Memory.wf_lookup_eq hm, Memory.wf_lookup_eq hn, h a]

end Sys2Proof.Proofs

/-! ## Errors (R31, R240 to R248) -/

namespace Sys2Proof.Machine

/-- The running host operation gives an error its code (R248). -/
theorem issuedCode_of_runningRoutine {s : State} {op : HostOp} (h : runningRoutine s.pc s.rs = .op op) :
    s.issuedCode = some op.code := by simp [State.issuedCode, h]

/-- ATTACH and TEARDOWN leave the block `Released`, every other operation `Faulted` (R248's table). -/
theorem lifeAfter_transportFailure (r : Request) (op : HostOp) (l : Life) :
    lifeAfter (.transportFailure r) (some op.code) l = if op = .attach ∨ op = .teardown then .released else .faulted := by
  cases op <;> rfl

section RaiseStates

variable (s : State) (op : HostOp)

/-- The whole state after an error. -/
theorem raise_eq (c : Cause) (code : Option (BitVec 4)) : raise c code s = { s with
    res := resultsAfter c code s.res, flags := { s.flags with fault := true, active := false }, pc := ⟨.idle, 0⟩, rs := [],
    life := lifeAfter c code s.life, panel := panelAfter c (rowsSent s) s.panel } := rfl

theorem raise_illegalOperation (code : BitVec 4) : raise .illegalOperation (some code) s = { s with
    res := { s.res with errCode := .illegalOperation, errOp := code },
    flags := { s.flags with fault := true, active := false }, pc := ⟨.idle, 0⟩, rs := [] } := by
  simp [raise_eq, resultsAfter, lifeAfter, panelAfter, Cause.code]

/-- An error of the acceptance check or of the image: `life` stays, the panel's condition is unknown (log entry 8). -/
theorem raise_checked {c : Cause} (hc : c ∈ [Cause.resourceUnavailable, .invalidState, .unsupportedInput]) :
    raise c (some op.code) s = { s with
      res := { s.res with errCode := c.code, errOp := op.code }, flags := { s.flags with fault := true, active := false },
      pc := ⟨.idle, 0⟩, rs := [], panel := s.panel.forgetAll } := by
  simp only [List.mem_cons, List.not_mem_nil, or_false] at hc
  rcases hc with rfl | rfl | rfl <;> simp [raise_eq, resultsAfter, lifeAfter, panelAfter]

theorem raise_transportFailure (r : Request) : raise (.transportFailure r) (some op.code) s = { s with
    res := { errCode := .transportFailure, errOp := op.code, errInfo := errInfoOf r },
    flags := { s.flags with fault := true, active := false }, pc := ⟨.idle, 0⟩, rs := [],
    life := (if op = .attach ∨ op = .teardown then .released else .faulted), panel := s.panel.failed (rowsSent s) } := by
  simp [raise_eq, resultsAfter, lifeAfter_transportFailure, panelAfter, Cause.code]

theorem raise_hardwareNeverIdle : raise .hardwareNeverIdle (some op.code) s = { s with
    res := { s.res with errCode := .hardwareNeverIdle, errOp := op.code },
    flags := { s.flags with fault := true, active := false }, pc := ⟨.idle, 0⟩, rs := [], life := .faulted,
    panel := s.panel.failed (rowsSent s) } := by
  simp [raise_eq, resultsAfter, lifeAfter, panelAfter, Cause.code]

end RaiseStates

/-- Every bit of `ERR`: `err_code`, then `err_op`, then a zero bit (R31). -/
theorem errByte_getLsbD (s : State) (n : Nat) (h : n < 8) : (errByte s).getLsbD n =
    if n < 3 then s.res.errCode.code.getLsbD n else if n < 7 then s.res.errOp.getLsbD (n - 3) else false := by
  simp only [errByte, BitVec.getLsbD_setWidth, BitVec.getLsbD_append]
  interval_cases n <;> simp

theorem errByte_errCode (s : State) : (errByte s).extractLsb' 0 3 = s.res.errCode.code := by
  ext i hi
  have hbit := errByte_getLsbD s i (by omega)
  simpa [hi] using hbit

theorem errByte_errOp (s : State) : (errByte s).extractLsb' 3 4 = s.res.errOp := by
  ext i hi
  have hbit := errByte_getLsbD s (3 + i) (by omega)
  simpa [hi, show 3 + i < 7 by omega] using hbit

end Sys2Proof.Machine

namespace Sys2Proof.Proofs

open Sys2Proof.Machine

/-- Settles O24: the fields of `ERR` one by one; the values of `ERRINFO` are closed words, one for each request. -/
theorem errLayout : Obligations.ErrLayout := by
  refine ⟨fun s => ?_, fun _ => by simp [errInfoOf, requestResource, requestKind], rfl,
    fun _ => by simp [errInfoOf, requestResource, requestKind], fun _ => by simp [errInfoOf, requestResource, requestKind], by decide, by decide⟩
  exact ⟨errByte s, rfl, errByte_errCode s, errByte_errOp s, errByte_getLsbD s 7 (by decide), rfl⟩

/-- Settles O30: one lemma for each kind of error; the code is that of the outermost routine of the call chain. -/
theorem raiseEffect : Obligations.RaiseEffect := by
  refine fun s op => ⟨raise_illegalOperation s op.code, fun p hp => ?_, raise_transportFailure s op,
    raise_hardwareNeverIdle s op, issuedCode_of_runningRoutine, fun _ hrs => ?_⟩
  · simp only [List.mem_cons, List.not_mem_nil, or_false] at hp
    rcases hp with rfl | rfl | rfl <;> exact raise_checked s op (by decide)
  · exact issuedCode_of_runningRoutine (by simp [hrs, runningRoutine])

/-- Settles O31: the failed request is recorded and raises with the running operation's code. -/
theorem transportFailureAborts : Obligations.TransportFailureAborts := by
  intro s r op hact hline hfail hrun
  rw [step_active s hact, sequencerStep_failed s r hline hfail,
    issuedCode_of_runningRoutine (s := s.record r .fail) hrun, raise_transportFailure]
  rfl

end Sys2Proof.Proofs

/-! ## Host registers (R29, R40) -/

namespace Sys2Proof.Proofs

open Sys2Proof.Machine

/-- Settles O21: a host write is a change of the operand registers. -/
theorem hostWriteTouchesOperandsOnly : Obligations.HostWriteTouchesOperandsOnly := fun _ _ _ _ h => hostWrite_next h

/-- A write of one of the seven operand registers: what it reads after it, and that no other register reads otherwise. -/
theorem hostWrite_operand {reg : Nat} (v : Nat) {s : State} (hact : s.flags.active = false) (hlo : 4 ≤ reg) (hhi : reg ≤ 10) :
    ∃ t, hostWrite reg v s = .next t ∧ hostRead reg t = some (if reg = 8 then v % 256 else v % 2 ^ s.cfg.argw) ∧
      (∀ n : Nat, n ≠ reg → hostRead n t = hostRead n s) ∧ hostRead 0 t = some 0 := by
  interval_cases reg <;> simp only [hostWrite, hact, Bool.false_eq_true, if_false] <;>
    refine ⟨_, rfl, by simp [hostRead, operandValue], fun n hn => ?_, rfl⟩ <;>
    unfold hostRead <;>
    split <;> first | rfl | exact absurd rfl hn

/-- Settles O22: a value of the register's width is read back whole, since cutting it to the width changes nothing. -/
theorem hostRegistersReadBack : Obligations.HostRegistersReadBack := by
  intro reg v s hact hlo hhi
  obtain ⟨t, hwrite, hread, hothers, hop⟩ := hostWrite_operand v hact hlo hhi
  refine ⟨t, hwrite, hread, fun hreg hv => ?_, hothers, hop⟩
  rw [hread, if_neg hreg, Nat.mod_eq_of_lt hv]

end Sys2Proof.Proofs

/-! ## The issue of a host operation (R22, R99, R217, R247) -/

namespace Sys2Proof.Machine

open Sys2Proof.Safety

/-- The verdict in a lifecycle state a host can see is the cell of R22's table. -/
theorem verdict_of_lifeCell {op : HostOp} {l : Life} {cell : Option ErrCode} (h : lifeCell op l = some cell) :
    (verdict op l).map Cause.code = cell := by
  cases op <;> cases l <;> cases h <;> rfl

/-- The acceptance check gives only errors that leave `life` as it is. -/
theorem verdict_mem {op : HostOp} {l : Life} {c : Cause} (h : verdict op l = some c) :
    c ∈ [Cause.resourceUnavailable, .invalidState, .unsupportedInput] := by
  revert c; cases op <;> cases l <;> rintro c ⟨⟩ <;> decide

theorem acceptance_of_rejecting_cell {op : HostOp} {s : State} {e : ErrCode} (h : lifeCell op s.life = some (some e)) :
    ∃ c ∈ [Cause.resourceUnavailable, .invalidState, .unsupportedInput], acceptance op s = some c ∧ c.code = e := by
  obtain ⟨c, hc, hcode⟩ := Option.map_eq_some_iff.mp (verdict_of_lifeCell h)
  exact ⟨c, verdict_mem hc, by simp [acceptance, hc], hcode⟩

theorem acceptance_of_accepting_cell {op : HostOp} {s : State} (h : lifeCell op s.life = some none)
    (hfb : op = .writeFrame → s.flags.fbValid = true) : acceptance op s = none := by
  have hv := Option.map_eq_none_iff.mp (verdict_of_lifeCell h)
  simp only [acceptance, hv]
  exact if_neg fun ⟨hop, hno⟩ => by simp [hfb hop] at hno

theorem acceptance_pack (s : State) : acceptance .pack s = none := rfl

/-- A rejection is the state with the results, `fault` and the ghost panel changed (R247; log entry 8). -/
theorem exec_rejected {op : HostOp} {s : State} {c : Cause} (hidle : Idle s)
    (hc : c ∈ [Cause.resourceUnavailable, .invalidState, .unsupportedInput]) (hacc : acceptance op s = some c) :
    exec op.instr s = .next { s with
      res := { s.res with errCode := c.code, errOp := op.code }, flags := { s.flags with fault := true },
      panel := s.panel.forgetAll } := by
  obtain ⟨hact, hpc, hrs⟩ := hidle
  rw [exec_hostOp, issue_rejected op s c hact hacc, raise_checked s op hc]
  simp [hact, hpc, hrs]

/-! ### The accepted operation -/

section Accept

variable (op : HostOp) (s : State)

@[simp] theorem accept_pc : (accept op s).pc = ⟨.op op, 0⟩ := rfl
@[simp] theorem accept_rs : (accept op s).rs = [] := rfl
@[simp] theorem accept_flags : (accept op s).flags = { s.flags with active := true } := by cases op <;> rfl
@[simp] theorem accept_cfg : (accept op s).cfg = s.cfg := by cases op <;> rfl
@[simp] theorem accept_life : (accept op s).life = s.life := by cases op <;> rfl
@[simp] theorem accept_args : (accept op s).args = s.args := by cases op <;> rfl
@[simp] theorem accept_cnt : (accept op s).cnt = s.cnt := by cases op <;> rfl
@[simp] theorem accept_tmp : (accept op s).tmp = (sample op s).tmp := rfl
@[simp] theorem accept_shadow : (accept op s).shadow = s.shadow := by cases op <;> rfl
@[simp] theorem accept_res : (accept op s).res = s.res := by cases op <;> rfl
@[simp] theorem accept_pins : (accept op s).pins = s.pins := by cases op <;> rfl
@[simp] theorem accept_fb : (accept op s).fb = s.fb := by cases op <;> rfl
@[simp] theorem accept_hist : (accept op s).hist = s.hist := by cases op <;> rfl
@[simp] theorem accept_panel : (accept op s).panel = s.panel := by cases op <;> rfl
@[simp] theorem accept_img : (accept op s).img = s.img := by cases op <;> rfl
@[simp] theorem accept_env : (accept op s).env = s.env := by cases op <;> rfl
@[simp] theorem accept_inbox : (accept op s).inbox = s.inbox := by cases op <;> rfl

end Accept

/-! ### PACK, by itself and inside DISPLAY -/

/-- PACK of a supported size has filled `FB`. -/
def State.packed (s : State) (fb : Memory) : State :=
  ((s.setFb fb).setFlags { s.flags with fbValid := true }).setCnt (packedCounters s.args.imgW s.cnt)

/-- PACK of another size has filled `FB` with `PACK_FILL` only (R223). -/
def State.filled (s : State) : State :=
  ((s.setFb filledFb).setFlags { s.flags with fbValid := false }).setCnt { s.cnt with a := Config.fbBytes }

section PackLines

variable {s : State} (hpc : s.pc = ⟨.op .pack, 0⟩)

include hpc

theorem line_pack_some {fb : Memory} (h : packImage s.cfg.portraitClearOnNonblack s.args.imgW s.args.imgH s.img = some fb) :
    line s = .ret (s.packed fb) := by
  simp [line, hpc, packLine, h, State.packed]

theorem line_pack_none (h : packImage s.cfg.portraitClearOnNonblack s.args.imgW s.args.imgH s.img = none) :
    line s = .raise .unsupportedInput s.filled := by
  simp [line, hpc, packLine, h, State.filled]

end PackLines

/-- Only R223's two sizes are packed. -/
theorem packImage_eq_none (flag : Bool) {w h : Nat} (img : Image) (hland : (w, h) ≠ (128, 296)) (hport : (w, h) ≠ (296, 128)) :
    packImage flag w h img = none := by
  rw [packImage, if_neg (by simpa using hland), if_neg (by simpa using hport)]

/-- DISPLAY calls PACK first (R184). -/
theorem line_display_pack {s : State} (hpc : s.pc = ⟨.op .display, 0⟩) : line s = .silent (s.call (.op .pack)) := by
  simp [line, hpc, displayLine]

/-- DISPLAY, its image packed, before its WRITE_FRAME. -/
def displayPacked (s : State) (fb : Memory) : State :=
  ((((accept .display s).call (.op .pack)).packed fb).setRs []).setPc ⟨.op .display, 1⟩

theorem settle_display_packed {s : State} {fb : Memory} (n : Nat)
    (h : packImage s.cfg.portraitClearOnNonblack s.args.imgW s.args.imgH s.img = some fb) :
    settle (n + 2) (accept .display s) = settle n (displayPacked s fb) := by
  have hret : returnTo ⟨.op .display, 1⟩ [] (((accept .display s).call (.op .pack)).packed fb) = displayPacked s fb := rfl
  rw [settle_silent (n + 1) _ _ (line_display_pack rfl), ← hret]
  exact settle_ret_cons n _ _ _ _ (line_pack_some rfl h) rfl

theorem exec_pack_some {s : State} {fb : Memory} (hact : s.flags.active = false)
    (h : packImage s.cfg.portraitClearOnNonblack s.args.imgW s.args.imgH s.img = some fb) :
    exec .pack s = .next ((accept .pack s).packed fb).finish := by
  rw [show Instr.pack = HostOp.pack.instr from rfl, exec_hostOp, issue_accepted _ s hact (acceptance_pack s)]
  exact settle_ret_nil 15 _ _ (line_pack_some rfl h) rfl

theorem exec_pack_none {s : State} (hact : s.flags.active = false)
    (h : packImage s.cfg.portraitClearOnNonblack s.args.imgW s.args.imgH s.img = none) :
    exec .pack s = .next (raise .unsupportedInput (some HostOp.pack.code) (accept .pack s).filled) := by
  rw [show Instr.pack = HostOp.pack.instr from rfl, exec_hostOp, issue_accepted _ s hact (acceptance_pack s)]
  exact settle_raise 15 _ _ _ (line_pack_none rfl h)

theorem issue_display_none {s : State} (hact : s.flags.active = false) (hacc : acceptance .display s = none)
    (h : packImage s.cfg.portraitClearOnNonblack s.args.imgW s.args.imgH s.img = none) :
    issue .display s =
      .next (raise .unsupportedInput (some HostOp.display.code) ((accept .display s).call (.op .pack)).filled) := by
  rw [issue_accepted _ s hact hacc]
  exact (settle_silent 15 _ _ (line_display_pack rfl)).trans (settle_raise 14 _ _ _ (line_pack_none rfl h))

/-! ### The first request -/

/-- A call of a packet routine waits for that packet's first request. -/
theorem settle_callCommand (n : Nat) {s : State} {k : PacketKind} (h : line s = .silent (s.callCommand k)) :
    settle (n + 2) s = .next (s.callCommand k) :=
  (settle_silent (n + 1) _ _ h).trans (settle_ask n _ _ (line_sendCommand_dc rfl))

theorem line_setWindow_begin {s : State} (hpc : s.pc = ⟨.op .setWindow, 0⟩) :
    line s = .silent (s.callCommand .setRamXStartEnd) := by simp [line, hpc, setWindowLine]

/-- The window of the whole panel, in the parameter registers of SET_WINDOW (R181). -/
def Params.wholeWindow (p : Params) : Params :=
  { p with tX0 := 0#16, tY0 := 0#16, tX1 := 127#16, tY1 := 295#16 }

theorem line_writeFrame_begin {s : State} (hpc : s.pc = ⟨.op .writeFrame, 0⟩) :
    line s = .silent ((s.setTmp s.tmp.wholeWindow).call (.op .setWindow)) := by
  simp [line, hpc, writeFrameLine, frameLoopLine, Params.wholeWindow, heightMinus1]

theorem line_clear_begin {s : State} (hpc : s.pc = ⟨.op .clear, 0⟩) :
    line s = .silent ((s.setTmp s.tmp.wholeWindow).call (.op .setWindow)) := by
  simp [line, hpc, clearLine, frameLoopLine, Params.wholeWindow, heightMinus1]

/-- An accepted operation other than PACK and DISPLAY waits for its first request, nothing asked and no result changed. -/
theorem issue_starts {op : HostOp} {s : State} (hact : s.flags.active = false) (hacc : acceptance op s = none)
    (hpack : op ≠ .pack) (hdisplay : op ≠ .display) :
    ∃ t, issue op s = .next t ∧ t.hist = s.hist ∧ t.flags.active = true ∧ t.res = s.res := by
  rw [issue_accepted op s hact hacc]
  cases op
  case pack => exact absurd rfl hpack
  case display => exact absurd rfl hdisplay
  case attach | teardown => exact ⟨_, settle_ask 15 _ _ rfl, by simp⟩
  case init => exact ⟨_, (settle_silent 15 _ _ rfl).trans (settle_ask 14 _ _ rfl), by simp⟩
  case writeFrame =>
    exact ⟨_, (settle_silent 15 _ _ (line_writeFrame_begin rfl)).trans (settle_callCommand 13 (line_setWindow_begin rfl)),
      by simp⟩
  case clear =>
    exact ⟨_, (settle_silent 15 _ _ (line_clear_begin rfl)).trans (settle_callCommand 13 (line_setWindow_begin rfl)),
      by simp⟩
  case setWindow | setCursor | turnOnDisplay | powerDown => exact ⟨_, settle_callCommand 14 rfl, by simp⟩

/-- DISPLAY of an image that packs waits for the first request of its WRITE_FRAME. -/
theorem issue_display_some {s : State} {fb : Memory} (hact : s.flags.active = false) (hacc : acceptance .display s = none)
    (h : packImage s.cfg.portraitClearOnNonblack s.args.imgW s.args.imgH s.img = some fb) :
    ∃ t, issue .display s = .next t ∧ t.hist = s.hist ∧ t.flags.active = true := by
  rw [issue_accepted _ s hact hacc]
  exact ⟨_, (settle_display_packed 14 h).trans ((settle_silent 13 _ _ rfl).trans ((settle_silent 12 _ _
    (line_writeFrame_begin rfl)).trans (settle_callCommand 10 (line_setWindow_begin rfl)))), by simp [displayPacked, State.packed]⟩

end Sys2Proof.Machine

namespace Sys2Proof.Proofs

open Sys2Proof.Machine Sys2Proof.Safety

/-- Settles O27: the cell names the error of the acceptance check, whose taking is one lemma; WRITE_FRAME's `fb_valid` is that
check's second part. -/
theorem rejectionChangesOnlyResults : Obligations.RejectionChangesOnlyResults := by
  refine fun op s hidle => ⟨fun e hcell => ?_, ?_⟩
  · obtain ⟨c, hc, hacc, rfl⟩ := acceptance_of_rejecting_cell hcell
    exact exec_rejected hidle hc hacc
  · rintro rfl hlife hfb
    exact exec_rejected (c := .invalidState) hidle (by decide) (by simp [acceptance, verdict, hlife, hfb])

/-- Settles O26: a rejecting cell raises its error; an accepted operation waits for its first request, PACK ends with its image
packed or not, DISPLAY does one of the two. -/
theorem legalityTable : Obligations.LegalityTable := by
  intro op s cell hact hcell hfb
  cases cell with
  | some e =>
    obtain ⟨c, hc, hacc, hcode⟩ := acceptance_of_rejecting_cell hcell
    refine ⟨_, (exec_hostOp op s).trans (issue_rejected op s c hact hacc), rfl, ?_, nofun, nofun, nofun⟩
    rintro _ ⟨⟩
    rw [raise_checked s op hc]
    exact ⟨rfl, hcode, rfl, rfl, rfl⟩
  | none =>
    have hacc := acceptance_of_accepting_cell hcell hfb
    by_cases hpack : op = .pack
    · subst hpack
      cases hp : packImage s.cfg.portraitClearOnNonblack s.args.imgW s.args.imgH s.img with
      | some fb => exact ⟨_, exec_pack_some hact hp, by simp [State.packed]⟩
      | none => exact ⟨_, exec_pack_none hact hp, by simp [State.filled, resultsAfter, Cause.code]⟩
    by_cases hdisplay : op = .display
    · subst hdisplay
      rw [exec_hostOp]
      cases hp : packImage s.cfg.portraitClearOnNonblack s.args.imgW s.args.imgH s.img with
      | some fb =>
        obtain ⟨t, ht, hhist, hact'⟩ := issue_display_some hact hacc hp
        exact ⟨t, ht, hhist, by simp [hact']⟩
      | none => exact ⟨_, issue_display_none hact hacc hp, by simp [State.filled, resultsAfter, Cause.code]⟩
    obtain ⟨t, ht, hhist, hact', hres⟩ := issue_starts hact hacc hpack hdisplay
    exact ⟨t, (exec_hostOp op s).trans ht, hhist, nofun, fun _ _ _ => ⟨hact', hres⟩, fun _ h => absurd h hpack,
      fun _ h => absurd h hdisplay⟩

/-- Settles O28: each reserved code is a row of the decoder's table, and its meaning is one error. -/
theorem reservedCodesIllegal : Obligations.ReservedCodesIllegal := by
  intro s i code hidle hmem
  obtain ⟨hact, hpc, hrs⟩ := hidle
  have hissue : issueReserved code s = .next { s with
      res := { s.res with errCode := .illegalOperation, errOp := code }, flags := { s.flags with fault := true } } := by
    simp [issueReserved, hact, hpc, hrs, raise_illegalOperation]
  simp only [List.mem_cons, Prod.mk.injEq, List.not_mem_nil, or_false] at hmem
  rcases hmem with ⟨rfl, rfl⟩ | ⟨rfl, rfl⟩ | ⟨rfl, rfl⟩ | ⟨rfl, rfl⟩ | ⟨rfl, rfl⟩ <;> exact ⟨rfl, hissue⟩

/-- Settles O29: every instruction that is no packet is an issue. -/
theorem overlappingIssueRefused : Obligations.OverlappingIssueRefused := by
  intro s i hact hparts
  have hreserved (code : BitVec 4) : issueReserved code s = .refused .overlappingIssue := by simp [issueReserved, hact]
  have hissue (op : HostOp) := issue_overlapping op s hact
  cases i <;> cases hparts
  case reservedB | reservedC | reservedD | reservedE | reservedF => exact hreserved _
  case pack => exact hissue .pack
  all_goals exact hissue _

/-- Settles O47: PACK's one line, then the end. -/
theorem packCompletes : Obligations.PackCompletes := by
  intro s fb hact hp
  rw [exec_pack_some hact hp]
  simp [State.packed, State.finish, accept, sample, State.setFb, State.setFlags, State.setCnt, State.setPc, State.setRs,
    State.setRes, hact]

/-- Settles O49: PACK's one line raises, by itself or called by DISPLAY; `FB` is filled and nothing is listed in it. -/
theorem packRejectsOtherSizes : Obligations.PackRejectsOtherSizes := by
  intro s op hact hop hland hport
  have hp := packImage_eq_none s.cfg.portraitClearOnNonblack s.img hland hport
  refine ⟨filledFb, ?_, fun _ _ => rfl⟩
  rcases hop with rfl | ⟨rfl, hlife⟩
  · rw [show HostOp.pack.instr = .pack from rfl, exec_pack_none hact hp, raise_checked _ _ (by decide)]
    simp [State.filled, accept, sample, State.setFb, State.setFlags, State.setCnt, State.setPc, State.setRs, Cause.code, hact]
  · rw [exec_hostOp, issue_display_none hact (by simp [acceptance, verdict, hlife]) hp, raise_checked _ _ (by decide)]
    simp [State.filled, accept, sample, State.setFb, State.setFlags, State.setCnt, State.setPc, State.setRs, State.call,
      Cause.code, hact]

end Sys2Proof.Proofs

/-! ## Reset, the idle machine, the wires (R41, R138) -/

namespace Sys2Proof.Machine

/-- The levels of the two wires for one bit: drive `MOSI`, raise `SCLK`, lower `SCLK` (R138). -/
def bitPulse (x : Bool) : List SpiWires := [⟨.ofBool x, .low⟩, ⟨.ofBool x, .high⟩, ⟨.ofBool x, .low⟩]

theorem spiWave_eq (c : Config) (b : Byte) : spiWave c b = (spiBits c.spiMsbFirst b).flatMap bitPulse := rfl

/-- The panel samples each bit once, at its rising edge. -/
theorem spiSamples_pulses (bits : List Bool) : spiSamples .low (bits.flatMap bitPulse) = bits.map Level.ofBool := by
  induction bits with
  | nil => rfl
  | cons x bits ih => simp [bitPulse, spiSamples, ih]

/-- Bit 7 goes out first (G4). -/
theorem spiBits_msbFirst (b : Byte) : spiBits true b = (List.range 8).map (fun n => b.getLsbD (7 - n)) := rfl

end Sys2Proof.Machine

namespace Sys2Proof.Proofs

open Sys2Proof.Machine Sys2Proof.Safety

/-- Settles O6: each value is read off the reset state. -/
theorem resetState : Obligations.ResetState := ⟨rfl, rfl, rfl, rfl, rfl, rfl, rfl, rfl, rfl, rfl, rfl⟩

/-- Settles O7: the reset state is idle, lists no byte of memory, and has an empty history. -/
theorem resetMeetsInvariants : Obligations.ResetMeetsInvariants := by
  unfold Obligations.ResetMeetsInvariants Safety.Invariant seqInv memInv argsInv FrameInv
  decide

/-- Settles O13: the six forms of what is pending. -/
theorem stepRunsDecoded : Obligations.StepRunsDecoded := by
  intro s rest hact
  refine ⟨fun v hi => ?_, fun bytes i hi hd => ?_, fun bytes e hi hd => ?_, fun n v hi => ?_, fun img hi => ?_,
    step_idle_empty s hact⟩
  · exact step_idle_code s _ (.host (BitVec.ofNat 4 v)) _ hact (by simp [fetch, hi, State.setInbox]) rfl
  · exact step_idle_code s _ (.packet bytes) i hact (by simp [fetch, hi, State.setInbox]) hd
  all_goals simp [step, hact, fetch, hi, State.setInbox, State.setImg]
  · simp [decode, hd]

/-- Settles O36: one sample a pulse, in the order of the bits. -/
theorem spiWaveSamples : Obligations.SpiWaveSamples := by
  intro c b hmsb
  rw [spiWave_eq, hmsb, spiSamples_pulses, spiBits_msbFirst, List.map_map]
  exact ⟨rfl, rfl, rfl⟩

end Sys2Proof.Proofs

/-! ## What each line of the microprogram can do (R26, R27, R130)

One inversion lemma for each form of a line: the request it asks, the state it goes on with silently, the state it returns with,
the error it raises. Each tells all that the invariants need; none of them unfolds a line again. -/

namespace Sys2Proof.Machine

open Sys2Proof.Safety

/-! ### Requests -/

/-- The lines that ask a request, each with its request; `b` is the byte parameter. -/
def requestLines (b : Byte) : List (PC × Request) :=
  [(⟨.op .attach, 0⟩, .acquire .rst), (⟨.op .attach, 1⟩, .acquire .dc), (⟨.op .attach, 2⟩, .acquire .cs),
    (⟨.op .attach, 3⟩, .acquire .busy), (⟨.op .attach, 4⟩, .acquire .spi), (⟨.op .powerDown, 2⟩, .delay 2000),
    (⟨.op .teardown, 0⟩, .pinWrite .rst .low), (⟨.op .teardown, 1⟩, .pinWrite .dc .low), (⟨.op .teardown, 2⟩, .release .rst),
    (⟨.op .teardown, 3⟩, .release .dc), (⟨.op .teardown, 4⟩, .release .cs), (⟨.op .teardown, 5⟩, .release .busy),
    (⟨.op .teardown, 6⟩, .release .spi), (⟨.sendCommand, 0⟩, .pinWrite .dc .low), (⟨.sendCommand, 1⟩, .pinWrite .cs .low),
    (⟨.sendCommand, 2⟩, .spiWrite b), (⟨.sendCommand, 3⟩, .pinWrite .cs .high), (⟨.sendData, 0⟩, .pinWrite .dc .high),
    (⟨.sendData, 1⟩, .pinWrite .cs .low), (⟨.sendData, 2⟩, .spiWrite b), (⟨.sendData, 3⟩, .pinWrite .cs .high),
    (⟨.waitIdle, 1⟩, .pinRead), (⟨.waitIdle, 3⟩, .delay 200), (⟨.resetSeq, 0⟩, .pinWrite .rst .high),
    (⟨.resetSeq, 1⟩, .delay 200), (⟨.resetSeq, 2⟩, .pinWrite .rst .low), (⟨.resetSeq, 3⟩, .delay 5),
    (⟨.resetSeq, 4⟩, .pinWrite .rst .high), (⟨.resetSeq, 5⟩, .delay 200)]

/-! ### Silent lines -/

/-- The routines with loops, in which a silent line can go to another line. -/
def loopRoutines : List Routine := [.waitIdle, .loadLut, .op .writeFrame, .op .clear]

/-- The lines before which `life` is a state a host can see: the operation can end there without setting it (R22). -/
def settledLines : List PC :=
  [⟨.op .writeFrame, 10⟩, ⟨.op .clear, 10⟩, ⟨.op .display, 0⟩, ⟨.op .display, 2⟩, ⟨.op .pack, 0⟩]

/-- A line of the frame loop, with the counters inside their loops (R181). -/
def frameLineOk (c : Counters) : Nat → Bool
  | 0 | 1 | 9 | 10 => true
  | 2 => decide (c.j ≤ 296)
  | 3 | 4 | 8 => decide (c.j < 296)
  | 5 | 7 => decide (c.j < 296) && decide (c.i ≤ 16)
  | 6 => decide (c.j < 296) && decide (c.i < 16)
  | _ => false

/-- A line of LOAD_LUT, with the counter inside its loop (R152). -/
def lutLineOk (c : Counters) : Nat → Bool
  | 0 | 1 => true
  | 2 | 4 => decide (c.k ≤ 30)
  | 3 => decide (c.k < 30)
  | _ => false

/-- A labelled line of the microprogram (R26), with the counters inside their loops. -/
def lineOk (c : Counters) (pc : PC) : Bool :=
  match pc.routine with
  | .idle => false
  | .op .attach | .op .turnOnDisplay => decide (pc.step ≤ 5)
  | .op .init => decide (pc.step ≤ 18)
  | .op .setWindow => decide (pc.step ≤ 8)
  | .op .setCursor | .resetSeq => decide (pc.step ≤ 6)
  | .op .writeFrame | .op .clear => frameLineOk c pc.step
  | .op .pack => decide (pc.step = 0)
  | .op .display => decide (pc.step ≤ 2)
  | .op .powerDown => decide (pc.step ≤ 3)
  | .op .teardown => decide (pc.step ≤ 7)
  | .sendCommand | .sendData | .waitIdle => decide (pc.step ≤ 4)
  | .loadLut => lutLineOk c pc.step

/-- A bound on the silent lines from a line of the frame loop to the next request (log entry 4). -/
def frameRank : Nat → Nat
  | 0 | 3 | 9 | 10 => 2
  | 1 | 8 => 4
  | 2 => 3
  | 4 | 6 => 1
  | 5 => 5
  | _ => 6

/-- A bound on the silent lines from a line to the next request (log entry 4). -/
def rank (pc : PC) : Nat :=
  match pc.routine with
  | .idle => 0
  | .op .attach | .op .powerDown | .op .teardown => 1
  | .op .init => if pc.step = 17 then 2 else 1
  | .op .setWindow => if pc.step = 8 then 5 else 1
  | .op .setCursor => if pc.step ≤ 4 then 1 else 2
  | .op .turnOnDisplay => if pc.step ≤ 3 then 1 else if pc.step = 4 then 2 else 3
  | .op .writeFrame | .op .clear => frameRank pc.step
  | .op .pack => 4
  | .op .display => if pc.step = 0 then 5 else if pc.step = 1 then 3 else 1
  | .sendCommand | .sendData => if pc.step = 4 then 7 else 0
  | .waitIdle => if pc.step = 1 ∨ pc.step = 3 then 0 else if pc.step = 2 then 4 else 1
  | .resetSeq => if pc.step = 6 then 2 else 0
  | .loadLut => if pc.step = 2 then 2 else if pc.step = 0 ∨ pc.step = 3 then 1 else 3

/-- All a silent line can be: a move within a routine's loop, closer to the next request with the counters inside their loops; or
a call. -/
inductive Silent (s : State) : State → Prop
  | move (c : Counters) (n : Nat) (hloop : s.pc.routine ∈ loopRoutines) (hsettled : ⟨s.pc.routine, n⟩ ∉ settledLines)
      (hcnt : s.pc.routine = .waitIdle → c = { s.cnt with polls := c.polls })
      (hrank : rank ⟨s.pc.routine, n⟩ < rank s.pc)
      (hok : lineOk s.cnt s.pc = true → lineOk c ⟨s.pc.routine, n⟩ = true) : Silent s ((s.setCnt c).goto n)
  | command (k : PacketKind) (hcall : callee s.pc.routine s.pc.step = some .sendCommand)
      (hok : lineOk s.cnt s.pc = true → countersOk s.cnt ⟨s.pc.routine, s.pc.step + 1⟩ = true) : Silent s (s.callCommand k)
  | data (b : Byte) (hcall : callee s.pc.routine s.pc.step = some .sendData)
      (hok : lineOk s.cnt s.pc = true → countersOk s.cnt ⟨s.pc.routine, s.pc.step + 1⟩ = true) : Silent s (s.callData b)
  | call (p : Params) (r : Routine) (hcall : callee s.pc.routine s.pc.step = some r)
      (hok : lineOk s.cnt s.pc = true → countersOk s.cnt ⟨s.pc.routine, s.pc.step + 1⟩ = true) :
      Silent s ((s.setTmp p).call r)

/-! ### Returns and errors -/

/-- The last lines of the routines. -/
def returnLines : List PC :=
  [⟨.op .attach, 5⟩, ⟨.op .init, 18⟩, ⟨.op .setWindow, 8⟩, ⟨.op .setCursor, 6⟩, ⟨.op .turnOnDisplay, 5⟩, ⟨.op .writeFrame, 10⟩,
    ⟨.op .clear, 10⟩, ⟨.op .pack, 0⟩, ⟨.op .display, 2⟩, ⟨.op .powerDown, 3⟩, ⟨.op .teardown, 7⟩, ⟨.sendCommand, 4⟩,
    ⟨.sendData, 4⟩, ⟨.waitIdle, 2⟩, ⟨.resetSeq, 6⟩, ⟨.loadLut, 2⟩]

/-- The routines that return without changing anything. -/
def plainRoutines : List Routine :=
  [.op .setWindow, .op .setCursor, .op .writeFrame, .op .clear, .op .display, .sendCommand, .sendData, .waitIdle, .loadLut]

/-- The host operations that end by setting `life` (R153, R200 to R202). -/
def lifeRoutines : List Routine := [.op .attach, .op .init, .op .powerDown, .op .teardown]

/-- All a return can be. -/
inductive Returns (s : State) : State → Prop
  | plain (h : s.pc.routine ∈ plainRoutines) : Returns s s
  | life (l : Life) (h : s.pc.routine ∈ lifeRoutines) (hl : lifeSettled l = true)
      (hdown : s.pc.routine = .op .teardown → l = .released) : Returns s (s.setLife l)
  | reset (h : s.pc = ⟨.resetSeq, 6⟩) : Returns s (forgetWindow s)
  | shown (h : s.pc = ⟨.op .turnOnDisplay, 5⟩) : Returns s (showRam (s.setLife .ready))
  | packed (fb : Memory) (h : s.pc = ⟨.op .pack, 0⟩) (hfb : fb.wf = true) : Returns s (s.packed fb)

/-- All an error line can be: the exhausted wait, or PACK's size check. -/
inductive Raises (s : State) : Cause → State → Prop
  | exhausted (h : s.pc = ⟨.waitIdle, 3⟩) : Raises s .hardwareNeverIdle s
  | size (h : s.pc = ⟨.op .pack, 0⟩) : Raises s .unsupportedInput s.filled

/-! ### The inversion -/

/-- What the form of a line says about `s`. -/
def Act.Fits (s : State) : Act → Prop
  | .ask r => (s.pc, r) ∈ requestLines s.tmp.tByte
  | .silent t => Silent s t
  | .ret t => s.pc ∈ returnLines ∧ Returns s t
  | .raise c t => Raises s c t
  | .stop _ => lineOk s.cnt s.pc = false

section LineFits

variable {s : State} {n : Nat}

theorem attachLine_fits (hpc : s.pc = ⟨.op .attach, n⟩) : (attachLine n s).Fits s := by
  unfold attachLine
  split
  case h_6 => exact ⟨by rw [hpc]; decide, .life _ (by rw [hpc]; decide) rfl (by simp [hpc])⟩
  case h_7 => simp_all only [imp_false, Act.Fits, lineOk, decide_eq_false_iff_not]; omega
  all_goals simp [Act.Fits, requestLines, hpc]

theorem initLine_fits (hpc : s.pc = ⟨.op .init, n⟩) : (initLine n s).Fits s := by
  unfold initLine
  split
  case h_1 | h_18 => exact .call s.tmp _ (by rw [hpc]; rfl) fun _ => by rw [hpc]; rfl
  case h_2 | h_6 | h_10 | h_12 | h_14 | h_16 => exact .command _ (by rw [hpc]; rfl) fun _ => by rw [hpc]; rfl
  case h_19 => exact ⟨by rw [hpc]; decide, .life _ (by rw [hpc]; decide) rfl (by simp [hpc])⟩
  case h_20 => simp_all only [imp_false, Act.Fits, lineOk, decide_eq_false_iff_not]; omega
  all_goals exact .data _ (by rw [hpc]; rfl) fun _ => by rw [hpc]; rfl

theorem setWindowLine_fits (hpc : s.pc = ⟨.op .setWindow, n⟩) : (setWindowLine n s).Fits s := by
  unfold setWindowLine
  split
  case h_1 | h_4 => exact .command _ (by rw [hpc]; rfl) fun _ => by rw [hpc]; rfl
  case h_9 => exact ⟨by rw [hpc]; decide, .plain (by rw [hpc]; decide)⟩
  case h_10 => simp_all only [imp_false, Act.Fits, lineOk, decide_eq_false_iff_not]; omega
  all_goals exact .data _ (by rw [hpc]; rfl) fun _ => by rw [hpc]; rfl

theorem setCursorLine_fits (hpc : s.pc = ⟨.op .setCursor, n⟩) : (setCursorLine n s).Fits s := by
  unfold setCursorLine
  split
  case h_1 | h_3 => exact .command _ (by rw [hpc]; rfl) fun _ => by rw [hpc]; rfl
  case h_6 => exact .call s.tmp _ (by rw [hpc]; rfl) fun _ => by rw [hpc]; rfl
  case h_7 => exact ⟨by rw [hpc]; decide, .plain (by rw [hpc]; decide)⟩
  case h_8 => simp_all only [imp_false, Act.Fits, lineOk, decide_eq_false_iff_not]; omega
  all_goals exact .data _ (by rw [hpc]; rfl) fun _ => by rw [hpc]; rfl

theorem turnOnDisplayLine_fits (hpc : s.pc = ⟨.op .turnOnDisplay, n⟩) : (turnOnDisplayLine n s).Fits s := by
  unfold turnOnDisplayLine
  split
  case h_2 => exact .data _ (by rw [hpc]; rfl) fun _ => by rw [hpc]; rfl
  case h_5 => exact .call s.tmp _ (by rw [hpc]; rfl) fun _ => by rw [hpc]; rfl
  case h_6 => exact ⟨by rw [hpc]; decide, .shown hpc⟩
  case h_7 => simp_all only [imp_false, Act.Fits, lineOk, decide_eq_false_iff_not]; omega
  all_goals exact .command _ (by rw [hpc]; rfl) fun _ => by rw [hpc]; rfl

/-- The move from line `m` to line `n` of a loop, which is nearer to the next request. -/
theorem silent_goto {r : Routine} {m n : Nat} (c : Counters) (hpc : s.pc = ⟨r, m⟩)
    (hlines : r ∈ loopRoutines ∧ ⟨r, n⟩ ∉ settledLines ∧ rank ⟨r, n⟩ < rank ⟨r, m⟩)
    (hcnt : r = .waitIdle → c = { s.cnt with polls := c.polls })
    (hok : lineOk s.cnt ⟨r, m⟩ = true → lineOk c ⟨r, n⟩ = true) : Silent s ((s.setCnt c).goto n) := by
  obtain ⟨hloop, hsettled, hrank⟩ := hlines
  have hr : s.pc.routine = r := by rw [hpc]
  subst hr
  exact .move c n hloop hsettled hcnt (by rwa [hpc] at hrank ⊢) (by rwa [← hpc] at hok)

/-- The move to the next line of a loop. -/
theorem silent_advance {r : Routine} {m : Nat} (c : Counters) (hpc : s.pc = ⟨r, m⟩)
    (hlines : r ∈ loopRoutines ∧ ⟨r, m + 1⟩ ∉ settledLines ∧ rank ⟨r, m + 1⟩ < rank ⟨r, m⟩)
    (hcnt : r = .waitIdle → c = { s.cnt with polls := c.polls })
    (hok : lineOk s.cnt ⟨r, m⟩ = true → lineOk c ⟨r, m + 1⟩ = true) : Silent s (s.setCnt c).advance := by
  have h := silent_goto c hpc hlines hcnt hok
  rwa [show (s.setCnt c).goto (m + 1) = (s.setCnt c).advance by simp [State.goto, State.advance, hpc]] at h

/-- The shared lines of WRITE_FRAME and CLEAR, with a byte source that has a byte whenever the counters are inside their loops. -/
theorem frameLoopLine_fits {op : HostOp} (hop : op = .writeFrame ∨ op = .clear) {src : Option Byte}
    (hsrc : s.cnt.j < 296 → s.cnt.i < 16 → src ≠ none) (hpc : s.pc = ⟨.op op, n⟩) : (frameLoopLine src n s).Fits s := by
  have hlineOk (c : Counters) (m : Nat) : lineOk c ⟨.op op, m⟩ = frameLineOk c m := by rcases hop with rfl | rfl <;> rfl
  unfold frameLoopLine
  split
  case h_1 | h_10 =>
    exact .call _ _ (by rw [hpc]; rcases hop with rfl | rfl <;> rfl) fun _ => by rw [hpc]; rcases hop with rfl | rfl <;> rfl
  case h_4 =>
    refine .call _ _ (by rw [hpc]; rcases hop with rfl | rfl <;> rfl) fun hok => ?_
    rw [hpc] at hok ⊢
    rcases hop with rfl | rfl <;> simpa [lineOk, frameLineOk, countersOk] using hok
  case h_5 =>
    refine .command _ (by rw [hpc]; rcases hop with rfl | rfl <;> rfl) fun hok => ?_
    rw [hpc] at hok ⊢
    rcases hop with rfl | rfl <;> simpa [lineOk, frameLineOk, countersOk] using hok
  case h_2 =>
    refine silent_advance { s.cnt with j := 0 } hpc (by rcases hop with rfl | rfl <;> decide) nofun fun _ => ?_
    simp [hlineOk, frameLineOk]
  case h_3 =>
    split
    case isTrue =>
      exact silent_goto s.cnt hpc (by rcases hop with rfl | rfl <;> decide) nofun (by simp [hlineOk, frameLineOk])
    case isFalse hj =>
      refine silent_advance s.cnt hpc (by rcases hop with rfl | rfl <;> decide) nofun fun hok => ?_
      simp only [hlineOk, frameLineOk, decide_eq_true_eq, Config.height] at hok hj ⊢
      omega
  case h_6 =>
    split
    case isTrue =>
      exact silent_goto s.cnt hpc (by rcases hop with rfl | rfl <;> decide) nofun
        (by simp +contextual [hlineOk, frameLineOk])
    case isFalse hi =>
      refine silent_advance s.cnt hpc (by rcases hop with rfl | rfl <;> decide) nofun fun hok => ?_
      simp only [hlineOk, frameLineOk, Bool.and_eq_true, decide_eq_true_eq, Config.rowBytes] at hok hi ⊢
      omega
  case h_7 =>
    split
    case h_1 =>
      refine .data _ (by rw [hpc]; rcases hop with rfl | rfl <;> rfl) fun hok => ?_
      rw [hpc] at hok ⊢
      rcases hop with rfl | rfl <;> simpa [lineOk, frameLineOk, countersOk] using hok
    case h_2 =>
      simp only [Act.Fits, hpc, hlineOk, frameLineOk, Bool.and_eq_false_iff, decide_eq_false_iff_not]
      by_contra hok
      exact hsrc (by omega) (by omega) rfl
  case h_8 => exact silent_goto s.cnt hpc (by rcases hop with rfl | rfl <;> decide) nofun (by simp [hlineOk, frameLineOk])
  case h_9 =>
    refine silent_goto { s.cnt with j := s.cnt.j + 1 } hpc (by rcases hop with rfl | rfl <;> decide) nofun fun hok => ?_
    simp only [hlineOk, frameLineOk, decide_eq_true_eq] at hok ⊢
    omega
  case h_11 => rcases hop with rfl | rfl <;> exact ⟨by rw [hpc]; decide, .plain (by rw [hpc]; decide)⟩
  case h_12 => simp_all [Act.Fits, frameLineOk]

theorem writeFrameLine_fits (hpc : s.pc = ⟨.op .writeFrame, n⟩) : (writeFrameLine n s).Fits s :=
  frameLoopLine_fits (.inl rfl) (fun hj hi => by simp only [frameByte, Config.rowBytes, Config.fbBytes]; rw [if_pos (by omega)]; simp) hpc

theorem clearLine_fits (hpc : s.pc = ⟨.op .clear, n⟩) : (clearLine n s).Fits s :=
  frameLoopLine_fits (.inr rfl) (fun _ _ => nofun) hpc

theorem packLine_fits (hpc : s.pc = ⟨.op .pack, n⟩) : (packLine n s).Fits s := by
  unfold packLine
  split
  case h_1 =>
    split
    case h_1 fb hfb => exact ⟨by rw [hpc]; decide, .packed fb hpc (packImage_wf _ _ _ _ fb hfb)⟩
    case h_2 => exact .size hpc
  case h_2 => simp_all [Act.Fits, lineOk]

theorem displayLine_fits (hpc : s.pc = ⟨.op .display, n⟩) : (displayLine n s).Fits s := by
  unfold displayLine
  split
  case h_1 | h_2 => exact .call s.tmp _ (by rw [hpc]; rfl) fun _ => by rw [hpc]; rfl
  case h_3 => exact ⟨by rw [hpc]; decide, .plain (by rw [hpc]; decide)⟩
  case h_4 => simp_all only [imp_false, Act.Fits, lineOk, decide_eq_false_iff_not]; omega

theorem powerDownLine_fits (hpc : s.pc = ⟨.op .powerDown, n⟩) : (powerDownLine n s).Fits s := by
  unfold powerDownLine
  split
  case h_1 => exact .command _ (by rw [hpc]; rfl) fun _ => by rw [hpc]; rfl
  case h_2 => exact .data _ (by rw [hpc]; rfl) fun _ => by rw [hpc]; rfl
  case h_3 => simp [Act.Fits, requestLines, hpc]
  case h_4 => exact ⟨by rw [hpc]; decide, .life _ (by rw [hpc]; decide) rfl (by simp [hpc])⟩
  case h_5 => simp_all only [imp_false, Act.Fits, lineOk, decide_eq_false_iff_not]; omega

theorem teardownLine_fits (hpc : s.pc = ⟨.op .teardown, n⟩) : (teardownLine n s).Fits s := by
  unfold teardownLine
  split
  case h_8 => exact ⟨by rw [hpc]; decide, .life _ (by rw [hpc]; decide) rfl (fun _ => rfl)⟩
  case h_9 => simp_all only [imp_false, Act.Fits, lineOk, decide_eq_false_iff_not]; omega
  all_goals simp [Act.Fits, requestLines, hpc]

theorem sendCommandLine_fits (hpc : s.pc = ⟨.sendCommand, n⟩) : (sendCommandLine n s).Fits s := by
  unfold sendCommandLine
  split
  case h_5 => exact ⟨by rw [hpc]; decide, .plain (by rw [hpc]; decide)⟩
  case h_6 => simp_all only [imp_false, Act.Fits, lineOk, decide_eq_false_iff_not]; omega
  all_goals simp [Act.Fits, requestLines, hpc]

theorem sendDataLine_fits (hpc : s.pc = ⟨.sendData, n⟩) : (sendDataLine n s).Fits s := by
  unfold sendDataLine
  split
  case h_5 => exact ⟨by rw [hpc]; decide, .plain (by rw [hpc]; decide)⟩
  case h_6 => simp_all only [imp_false, Act.Fits, lineOk, decide_eq_false_iff_not]; omega
  all_goals simp [Act.Fits, requestLines, hpc]

theorem waitIdleLine_fits (hpc : s.pc = ⟨.waitIdle, n⟩) : (waitIdleLine n s).Fits s := by
  unfold waitIdleLine
  split
  case h_1 => exact silent_advance { s.cnt with polls := 0 } hpc (by decide) (fun _ => rfl) fun _ => rfl
  case h_2 => simp [Act.Fits, requestLines, hpc]
  case h_3 =>
    split
    case isTrue => exact silent_advance s.cnt hpc (by decide) (fun _ => rfl) fun _ => rfl
    case isFalse => exact ⟨by rw [hpc]; decide, .plain (by rw [hpc]; decide)⟩
  case h_4 =>
    split
    case isTrue => exact .exhausted hpc
    case isFalse => simp [Act.Fits, requestLines, hpc]
  case h_5 => exact silent_goto s.cnt hpc (by decide) (fun _ => rfl) fun _ => rfl
  case h_6 => simp_all only [imp_false, Act.Fits, lineOk, decide_eq_false_iff_not]; omega

theorem resetSeqLine_fits (hpc : s.pc = ⟨.resetSeq, n⟩) : (resetSeqLine n s).Fits s := by
  unfold resetSeqLine
  split
  case h_7 => exact ⟨by rw [hpc]; decide, .reset hpc⟩
  case h_8 => simp_all only [imp_false, Act.Fits, lineOk, decide_eq_false_iff_not]; omega
  all_goals simp [Act.Fits, requestLines, hpc]

theorem loadLutLine_fits (hpc : s.pc = ⟨.loadLut, n⟩) : (loadLutLine n s).Fits s := by
  unfold loadLutLine
  split
  case h_1 => exact .command _ (by rw [hpc]; rfl) fun _ => by rw [hpc]; rfl
  case h_2 => exact silent_advance { s.cnt with k := 0 } hpc (by decide) nofun (by simp [lineOk, lutLineOk])
  case h_3 =>
    split
    case isTrue => exact ⟨by rw [hpc]; decide, .plain (by rw [hpc]; decide)⟩
    case isFalse hk =>
      refine silent_advance s.cnt hpc (by decide) nofun fun hok => ?_
      simp only [lineOk, lutLineOk, decide_eq_true_eq, Config.lutLen] at hok hk ⊢
      omega
  case h_4 =>
    split
    case h_1 => exact .data _ (by rw [hpc]; rfl) fun hok => by simpa [hpc, lineOk, lutLineOk, countersOk] using hok
    case h_2 hnone => simpa [Act.Fits, hpc, lineOk, lutLineOk] using hnone
  case h_5 => exact silent_goto s.cnt hpc (by decide) nofun (by simp [lineOk, lutLineOk])
  case h_6 => simp_all [Act.Fits, lineOk, lutLineOk]

end LineFits

/-- Every line is of one of the forms. -/
theorem line_fits (s : State) : (line s).Fits s := by
  have hpc {r : Routine} (h : s.pc.routine = r) : s.pc = ⟨r, s.pc.step⟩ := by rw [← h]
  unfold line
  split <;> rename_i hr
  · simp [Act.Fits, lineOk, hr]
  · exact attachLine_fits (hpc hr)
  · exact initLine_fits (hpc hr)
  · exact setWindowLine_fits (hpc hr)
  · exact setCursorLine_fits (hpc hr)
  · exact turnOnDisplayLine_fits (hpc hr)
  · exact writeFrameLine_fits (hpc hr)
  · exact clearLine_fits (hpc hr)
  · exact packLine_fits (hpc hr)
  · exact displayLine_fits (hpc hr)
  · exact powerDownLine_fits (hpc hr)
  · exact teardownLine_fits (hpc hr)
  · exact sendCommandLine_fits (hpc hr)
  · exact sendDataLine_fits (hpc hr)
  · exact waitIdleLine_fits (hpc hr)
  · exact resetSeqLine_fits (hpc hr)
  · exact loadLutLine_fits (hpc hr)

section Inversion

variable {s t : State}

theorem line_ask_mem {r : Request} (h : line s = .ask r) : (s.pc, r) ∈ requestLines s.tmp.tByte := by
  simpa [h, Act.Fits] using line_fits s

theorem line_silent_inv (h : line s = .silent t) : Silent s t := by simpa [h, Act.Fits] using line_fits s

theorem line_ret_inv (h : line s = .ret t) : s.pc ∈ returnLines ∧ Returns s t := by
  simpa [h, Act.Fits] using line_fits s

theorem line_raise_inv {c : Cause} (h : line s = .raise c t) : Raises s c t := by simpa [h, Act.Fits] using line_fits s

theorem lineOk_of_stop {f : Fault} (h : line s = .stop f) : lineOk s.cnt s.pc = false := by
  simpa [h, Act.Fits] using line_fits s

end Inversion

end Sys2Proof.Machine

/-! ## Call chains (R27) -/

namespace Sys2Proof.Machine

open Sys2Proof.Safety

/-- A call leads nearer to the next request. -/
theorem rank_callee {r q : Routine} {n : Nat} (h : callee r n = some q) : rank ⟨q, 0⟩ < rank ⟨r, n⟩ := by
  unfold callee at h
  split at h <;> cases h <;> decide

/-- A return leads nearer to the next request. -/
theorem rank_return {r q : Routine} {n : Nat} {pc : PC} (h : callee r n = some q) (hpc : pc ∈ returnLines)
    (hq : pc.routine = q) : rank ⟨r, n + 1⟩ < rank pc := by
  unfold callee at h
  split at h <;> cases h <;> revert pc <;> decide

/-- How deep a routine can be called at most. -/
def callDepth : Routine → Nat
  | .idle | .op .attach | .op .init | .op .display | .op .powerDown | .op .teardown => 0
  | .op .pack | .op .writeFrame | .op .clear | .resetSeq | .loadLut => 1
  | .op .setWindow | .op .setCursor | .op .turnOnDisplay => 2
  | .sendCommand | .sendData | .waitIdle => 3

theorem callDepth_callee {r q : Routine} {n : Nat} (h : callee r n = some q) : callDepth r < callDepth q := by
  unfold callee at h
  split at h <;> cases h <;> decide

/-- The return address on top of a call chain is the line after the call of the running routine. -/
theorem chainOk_cons {r : Routine} {f : PC} {fs : List PC} (h : chainOk r (f :: fs) = true) :
    ∃ q n, f = ⟨q, n + 1⟩ ∧ callee q n = some r ∧ chainOk q fs = true := by
  obtain ⟨q, n⟩ := f
  simp only [chainOk, Bool.and_eq_true, decide_eq_true_eq] at h
  obtain ⟨⟨hstep, hcall⟩, hchain⟩ := h
  exact ⟨q, n - 1, by rw [Nat.sub_add_cancel hstep], hcall, hchain⟩

theorem chainOk_call {r q : Routine} {n : Nat} {fs : List PC} (hcall : callee r n = some q) (h : chainOk r fs = true) :
    chainOk q (⟨r, n + 1⟩ :: fs) = true := by
  simp [chainOk, hcall, h]

/-- An empty call chain is that of a host operation. -/
theorem chainOk_nil {r : Routine} (h : chainOk r [] = true) : ∃ op, r = .op op := by
  cases r <;> simp_all [chainOk]

theorem length_le_callDepth {r : Routine} {fs : List PC} (h : chainOk r fs = true) : fs.length ≤ callDepth r := by
  induction fs generalizing r with
  | nil => exact Nat.zero_le _
  | cons f fs ih =>
    obtain ⟨q, n, -, hcall, hchain⟩ := chainOk_cons h
    have hdepth := callDepth_callee hcall
    have hlen := ih hchain
    simp only [List.length_cons]
    omega

/-- Every routine of a call chain is called less deep than the running one. -/
theorem callDepth_of_mem {r : Routine} {f : PC} {fs : List PC} (h : chainOk r fs = true) (hf : f ∈ fs) :
    callDepth f.routine < callDepth r := by
  induction fs generalizing r with
  | nil => cases hf
  | cons g fs ih =>
    obtain ⟨q, n, rfl, hcall, hchain⟩ := chainOk_cons h
    have hdepth := callDepth_callee hcall
    rcases List.mem_cons.mp hf with rfl | hf
    · exact hdepth
    · exact (ih hchain hf).trans hdepth

/-- Below a routine that is called at most once deep only return addresses without counters stand. -/
theorem countersOk_of_callDepth {f : PC} (h : callDepth f.routine = 0) (c : Counters) : countersOk c f = true := by
  obtain ⟨r, n⟩ := f
  unfold countersOk
  split <;> simp_all [callDepth]

theorem countersOk_below {r : Routine} {fs : List PC} (h : chainOk r fs = true) (hr : callDepth r ≤ 1) (c : Counters) :
    fs.all (countersOk c) = true := by
  rw [List.all_eq_true]
  intro f hf
  have := callDepth_of_mem h hf
  exact countersOk_of_callDepth (by omega) c

/-- The routines that a host-issued SET_WINDOW or SET_CURSOR can be in. -/
def addressRoutines : List Routine := [.op .setWindow, .op .setCursor, .sendCommand, .sendData, .waitIdle]

theorem addressRoutines_callee {r q : Routine} {n : Nat} (h : callee r n = some q) (hr : r ∈ addressRoutines) :
    q ∈ addressRoutines := by
  unfold callee at h
  split at h <;> cases h <;> revert hr <;> decide

/-- The running host operation in a call chain. -/
theorem runningRoutine_cons (pc f : PC) (fs : List PC) : runningRoutine pc (f :: fs) = runningRoutine f fs := rfl

theorem runningRoutine_congr (pc pc' : PC) (h : pc'.routine = pc.routine) (fs : List PC) :
    runningRoutine pc' fs = runningRoutine pc fs := by
  cases fs with
  | nil => exact h
  | cons f fs => rfl

theorem mem_addressRoutines {pc : PC} {fs : List PC} (h : chainOk pc.routine fs = true)
    (hrun : runningRoutine pc fs ∈ addressRoutines) : pc.routine ∈ addressRoutines := by
  induction fs generalizing pc with
  | nil => exact hrun
  | cons f fs ih =>
    obtain ⟨q, n, rfl, hcall, hchain⟩ := chainOk_cons h
    exact addressRoutines_callee hcall (ih hchain hrun)

end Sys2Proof.Machine

namespace Sys2Proof.Proofs

open Sys2Proof.Machine Sys2Proof.Safety

/-- Settles O11: no routine is called more than three deep. -/
theorem returnStackDepth : Obligations.ReturnStackDepth := by
  intro s hinv
  obtain ⟨hseq, -⟩ := hinv
  unfold seqInv at hseq
  split at hseq
  · obtain ⟨-, hchain, -⟩ := hseq
    refine (length_le_callDepth hchain).trans ?_
    unfold callDepth
    split <;> decide
  · obtain ⟨-, hrs, -⟩ := hseq
    simp [hrs]

end Sys2Proof.Proofs

/-! ## The invariant between two requests (R21, R24, R26, R27, R35) -/

namespace Sys2Proof.Machine

open Sys2Proof.Safety

/-! ### Memories -/

theorem memInv_of_eq {s t : State} (hfb : t.fb = s.fb) (hpanel : t.panel = s.panel) (h : memInv s) : memInv t := by
  unfold memInv at *
  rwa [hfb, hpanel]

theorem memInv_setPanel {s : State} {p : Panel} (h : memInv s) (hram : p.ram.rising = true) (hshown : p.shown.rising = true)
    (hleft : p.left.rising = true) : memInv (s.setPanel p) := ⟨h.1, hram, hshown, hleft⟩

theorem Panel.forgetRam_memInv {s : State} (h : memInv s) : memInv (s.setPanel s.panel.forgetRam) := by
  obtain ⟨-, -, hshown, -⟩ := id h
  exact memInv_setPanel h rfl hshown rfl

theorem begin_memInv {s : State} (k : PacketKind) (h : memInv s) : memInv (s.setPanel (s.panel.begin k s.shadow)) := by
  obtain ⟨-, hram, hshown, -⟩ := id h
  exact memInv_setPanel h (Panel.begin_ram_rising _ k _ hram) (Panel.begin_shown_rising _ k _ hshown) rfl

theorem frameReceived_memInv {s : State} (h : memInv s) : memInv (frameReceived s) := by
  obtain ⟨-, hram, hshown, hleft⟩ := id h
  exact memInv_setPanel h (Panel.data_ram_rising _ _ _ hram) (by simpa using hshown) (by simpa using hleft)

theorem windowSent_memInv {s : State} (w : Shadow) (h : memInv s) : memInv (s.setPanel (s.panel.windowSent w)) := by
  unfold Panel.windowSent
  split
  · exact h
  · exact Panel.forgetRam_memInv h

theorem cursorSent_memInv {s : State} (w : Shadow) (h : memInv s) : memInv (s.setPanel (s.panel.cursorSent w)) := by
  unfold Panel.cursorSent
  split
  · exact h
  · exact Panel.forgetRam_memInv h

theorem raise_memInv {s : State} (c : Cause) (code : Option (BitVec 4)) (h : memInv s) : memInv (raise c code s) := by
  obtain ⟨hfb, hram, hshown, hleft⟩ := h
  exact ⟨hfb, panelAfter_ram_rising _ _ _ hram, panelAfter_shown_rising _ _ _ hshown, panelAfter_left_rising _ _ _ hram hleft⟩

theorem Silent.memInv {s t : State} (hst : Silent s t) (h : memInv s) : memInv t := by
  cases hst with
  | command k => exact memInv_of_eq (s := s.setPanel (s.panel.begin k s.shadow)) rfl rfl (begin_memInv k h)
  | move | data | call => exact h

theorem Returns.memInv {s t : State} (hst : Returns s t) (h : memInv s) : memInv t := by
  obtain ⟨hfb, hram, hshown, hleft⟩ := id h
  cases hst with
  | plain | life => exact h
  | reset => exact ⟨hfb, rfl, hshown, rfl⟩
  | shown => exact ⟨hfb, hram, hram, hleft⟩
  | packed fb _ hwf => exact ⟨hwf, hram, hshown, hleft⟩

theorem Raises.memInv {s t : State} {c : Cause} (hst : Raises s c t) (h : memInv s) : memInv t := by
  cases hst with
  | exhausted => exact h
  | size => exact ⟨rfl, h.2⟩

theorem afterCall_memInv {s : State} (r : Routine) (n : Nat) (h : memInv s) : memInv (afterCall r n s) := by
  unfold afterCall
  split
  case h_1 => unfold initAfter; split <;> exact h
  case h_2 =>
    unfold setWindowAfter
    split
    case h_4 => exact windowSent_memInv (s := s.setShadow _) _ h
    all_goals exact h
  case h_3 =>
    unfold setCursorAfter
    split
    case h_2 => exact cursorSent_memInv (s := s.setShadow _) _ h
    all_goals exact h
  case h_4 => unfold turnOnDisplayAfter; split <;> exact h
  case h_5 | h_6 => unfold frameLoopAfter; split <;> exact h
  case h_7 => unfold loadLutAfter; split <;> exact h
  all_goals exact h

theorem answered_memInv {s : State} (h : memInv s) : memInv (answered s) := by
  unfold answered
  split
  case h_1 => exact frameReceived_memInv h
  case h_3 => exact memInv_of_eq (s := heldInReset s) rfl rfl (Panel.forgetRam_memInv h)
  all_goals exact h

/-! ### The sequencer between two requests -/

/-- The sequencer's part between two requests: a labelled line, in a call chain of the microprogram, with the counters inside their
loops here and at every return address; `life` as the running operation and the line leave it. -/
structure Settling (s : State) : Prop where
  active : s.flags.active = true
  labelled : lineOk s.cnt s.pc = true
  chain : chainOk s.pc.routine s.rs = true
  counters : s.rs.all (countersOk s.cnt) = true
  life : lifeOk s = true
  settled : s.pc ∈ settledLines → lifeSettled s.life = true

theorem lifeOk_congr {s t : State} (hrun : runningRoutine t.pc t.rs = runningRoutine s.pc s.rs) (hlife : t.life = s.life) :
    lifeOk t = lifeOk s := by
  simp only [lifeOk, hrun, hlife]

/-- Outside SET_WINDOW and SET_CURSOR, and what they call, `life` is free. -/
theorem lifeOk_of_routine {s : State} (hchain : chainOk s.pc.routine s.rs = true) (h : s.pc.routine ∉ addressRoutines) :
    lifeOk s = true := by
  have hrun : runningRoutine s.pc s.rs ∉ addressRoutines := fun hr => h (mem_addressRoutines hchain hr)
  unfold lifeOk
  split <;> simp_all [addressRoutines]

theorem lifeOk_ready {s : State} (h : lifeOk s = true) (hrs : s.rs = []) (hpc : s.pc.routine ∈ [Routine.op .setWindow, .op .setCursor]) :
    s.life = .ready := by
  simp only [List.mem_cons, List.not_mem_nil, or_false] at hpc
  rcases hpc with hpc | hpc <;> simpa [lifeOk, hrs, runningRoutine, hpc] using h

theorem countersOk_polls (c : Counters) (n : Nat) : countersOk { c with polls := n } = countersOk c := rfl

theorem settledLines_call {r q : Routine} {n : Nat} (h : callee r n = some q) (hq : ⟨q, 0⟩ ∈ settledLines) :
    ⟨r, n⟩ ∈ settledLines := by
  unfold callee at h
  split at h <;> cases h <;> revert hq <;> decide

/-- A call from a line between two requests. -/
theorem Settling.call {s t : State} {q : Routine} (h : Settling s) (hcall : callee s.pc.routine s.pc.step = some q)
    (hok : countersOk s.cnt ⟨s.pc.routine, s.pc.step + 1⟩ = true) (hflags : t.flags = s.flags) (hcnt : t.cnt = s.cnt)
    (hlife : t.life = s.life) (hpc : t.pc = ⟨q, 0⟩) (hrs : t.rs = ⟨s.pc.routine, s.pc.step + 1⟩ :: s.rs) : Settling t where
  active := hflags ▸ h.active
  labelled := by
    rw [hpc, hcnt]
    unfold callee at hcall
    split at hcall <;> cases hcall <;> rfl
  chain := by rw [hpc, hrs]; exact chainOk_call hcall h.chain
  counters := by rw [hrs, hcnt, List.all_cons, hok, h.counters]; rfl
  life := by
    rw [lifeOk_congr (s := s) _ hlife]
    · exact h.life
    · rw [hrs, runningRoutine_cons]; exact runningRoutine_congr s.pc ⟨s.pc.routine, s.pc.step + 1⟩ rfl s.rs
  settled := by
    rw [hpc, hlife]
    exact fun hq => h.settled (settledLines_call hcall hq)

/-- A silent line keeps what holds between two requests, and leads nearer to the next. -/
theorem Settling.silent {s t : State} (h : Settling s) (hst : Silent s t) : Settling t ∧ rank t.pc < rank s.pc := by
  cases hst with
  | command k hcall hok => exact ⟨h.call hcall (hok h.labelled) rfl rfl rfl rfl rfl, rank_callee hcall⟩
  | data b hcall hok => exact ⟨h.call hcall (hok h.labelled) rfl rfl rfl rfl rfl, rank_callee hcall⟩
  | call p r hcall hok => exact ⟨h.call hcall (hok h.labelled) rfl rfl rfl rfl rfl, rank_callee hcall⟩
  | move c n hloop hsettled hcnt hrank hok =>
    refine ⟨⟨h.active, hok h.labelled, h.chain, ?_, ?_, fun hmem => absurd hmem hsettled⟩, hrank⟩
    · by_cases hwait : s.pc.routine = .waitIdle
      · rw [State.goto_cnt, State.setCnt_cnt, hcnt hwait, countersOk_polls]
        exact h.counters
      · refine countersOk_below h.chain ?_ _
        revert hloop hwait
        generalize s.pc.routine = r
        simp only [loopRoutines, List.mem_cons, List.not_mem_nil, or_false]
        rintro (rfl | rfl | rfl | rfl) hwait
        · exact absurd rfl hwait
        all_goals decide
    · rw [lifeOk_congr (s := s) (t := (s.setCnt c).goto n) (runningRoutine_congr s.pc ⟨s.pc.routine, n⟩ rfl s.rs) rfl]
      exact h.life

/-! ### The return to a caller -/

/-- The rest of a call's line changes `life`, the counters, the shadow registers and the ghost panel at most. -/
theorem afterCall_eq (r : Routine) (n : Nat) (s : State) : afterCall r n s = { s with
    life := (afterCall r n s).life, cnt := (afterCall r n s).cnt, shadow := (afterCall r n s).shadow,
    panel := (afterCall r n s).panel } := by
  unfold afterCall initAfter setWindowAfter setCursorAfter turnOnDisplayAfter frameLoopAfter loadLutAfter
  split <;> try split
  all_goals rfl

theorem afterCall_pc (r : Routine) (n : Nat) (s : State) : (afterCall r n s).pc = s.pc := by rw [afterCall_eq]

theorem afterCall_rs (r : Routine) (n : Nat) (s : State) : (afterCall r n s).rs = s.rs := by rw [afterCall_eq]

theorem afterCall_flags (r : Routine) (n : Nat) (s : State) : (afterCall r n s).flags = s.flags := by rw [afterCall_eq]

/-- Only INIT and TURN_ON_DISPLAY change `life` within a line (D6). -/
theorem afterCall_life {r : Routine} (n : Nat) (s : State) (hinit : r ≠ .op .init) (hrefresh : r ≠ .op .turnOnDisplay) :
    (afterCall r n s).life = s.life := by
  unfold afterCall setWindowAfter setCursorAfter frameLoopAfter loadLutAfter
  split <;> try split
  all_goals first | rfl | contradiction

/-- Only the frame loop and LOAD_LUT count within a line. -/
theorem afterCall_cnt {r : Routine} (n : Nat) (s : State) (hr : 1 < callDepth r ∨ callDepth r = 0) :
    (afterCall r n s).cnt = s.cnt := by
  unfold afterCall initAfter setWindowAfter setCursorAfter turnOnDisplayAfter
  split <;> try split
  all_goals first | rfl | simp [callDepth] at hr

/-- The line after a call finds its counters inside their loops. -/
theorem lineOk_afterCall {r q : Routine} {n : Nat} {s : State} (hcall : callee r n = some q)
    (hok : countersOk s.cnt ⟨r, n + 1⟩ = true) : lineOk (afterCall r n s).cnt ⟨r, n + 1⟩ = true := by
  unfold callee at hcall
  split at hcall <;> cases hcall
  all_goals first
    | rfl
    | (simp only [countersOk, Bool.and_eq_true, decide_eq_true_eq] at hok
       simp only [lineOk, frameLineOk, lutLineOk, afterCall, frameLoopAfter, loadLutAfter, State.setCnt_cnt, Bool.and_eq_true,
        decide_eq_true_eq]
       omega)

theorem returnTo_pc (f : PC) (fs : List PC) (s : State) : (returnTo f fs s).pc = f := afterCall_pc _ _ _
theorem returnTo_rs (f : PC) (fs : List PC) (s : State) : (returnTo f fs s).rs = fs := afterCall_rs _ _ _
theorem returnTo_flags (f : PC) (fs : List PC) (s : State) : (returnTo f fs s).flags = s.flags := afterCall_flags _ _ _

section ReturnFacts

variable {s t : State} (hst : Returns s t)

include hst

theorem Returns.pc : t.pc = s.pc := by cases hst <;> rfl
theorem Returns.rs : t.rs = s.rs := by cases hst <;> rfl
theorem Returns.active : t.flags.active = s.flags.active := by cases hst <;> rfl

/-- A return changes the loop counters of the packer at most. -/
theorem Returns.countersOk : countersOk t.cnt = countersOk s.cnt := by
  cases hst with
  | packed fb => simp only [State.packed, State.setCnt_cnt, packedCounters]; split <;> rfl
  | plain | life | reset | shown => rfl

/-- The routines of a host-issued SET_WINDOW or SET_CURSOR return without changing `life`. -/
theorem Returns.life_of_address (h : s.pc.routine ∈ addressRoutines) : t.life = s.life := by
  cases hst with
  | plain | reset | packed => rfl
  | life l hr =>
    revert h hr
    generalize s.pc.routine = r
    revert r
    simp [addressRoutines, lifeRoutines]
  | shown hpc => rw [hpc] at h; exact absurd h (by decide)

/-- TURN_ON_DISPLAY returns in `Ready`. -/
theorem Returns.life_of_refresh (h : s.pc.routine = .op .turnOnDisplay) : t.life = .ready := by
  cases hst with
  | shown => rfl
  | plain hr | life l hr => rw [h] at hr; exact absurd hr (by decide)
  | reset hpc | packed _ hpc => rw [hpc] at h; cases h

/-- WRITE_FRAME returns in the lifecycle state it is in. -/
theorem Returns.life_of_writeFrame (h : s.pc.routine = .op .writeFrame) : t.life = s.life := by
  cases hst with
  | plain | reset | packed => rfl
  | life l hr => rw [h] at hr; exact absurd hr (by decide)
  | shown hpc => rw [hpc] at h; cases h

end ReturnFacts

/-- A return to a caller keeps what holds between two requests, and leads nearer to the next. -/
theorem Settling.return {s t : State} {f : PC} {fs : List PC} (h : Settling s) (hpc : s.pc ∈ returnLines) (hst : Returns s t)
    (hrs : t.rs = f :: fs) : Settling (returnTo f fs t) ∧ rank f < rank s.pc := by
  rw [hst.rs] at hrs
  have hchain := h.chain
  rw [hrs] at hchain
  obtain ⟨q, n, rfl, hcall, hchain⟩ := chainOk_cons hchain
  have hcounters := h.counters
  rw [hrs, List.all_cons, Bool.and_eq_true, ← hst.countersOk] at hcounters
  obtain ⟨hok, hcounters⟩ := hcounters
  refine ⟨⟨?_, ?_, ?_, ?_, ?_, ?_⟩, rank_return hcall hpc rfl⟩
  · rw [returnTo_flags, hst.active, h.active]
  · rw [returnTo_pc]; exact lineOk_afterCall hcall hok
  · rw [returnTo_pc, returnTo_rs]; exact hchain
  · rw [returnTo_rs]
    by_cases hdepth : callDepth q ≤ 1
    · exact countersOk_below hchain hdepth _
    · rw [returnTo, afterCall_cnt _ _ (.inl (Nat.lt_of_not_le hdepth))]; exact hcounters
  · by_cases hq : q ∈ addressRoutines
    · rw [lifeOk_congr (s := s) (by rw [returnTo_pc, returnTo_rs, hrs]; rfl)]
      · exact h.life
      · rw [returnTo, afterCall_life]
        · exact hst.life_of_address (addressRoutines_callee hcall hq)
        · rintro rfl; exact absurd hq (by decide)
        · rintro rfl; exact absurd hq (by decide)
    · exact lifeOk_of_routine (by rw [returnTo_pc, returnTo_rs]; exact hchain) (by rw [returnTo_pc]; exact hq)
  · rw [returnTo_pc]
    intro hsettled
    simp only [settledLines, List.mem_cons, PC.mk.injEq, Nat.add_eq_zero_iff, reduceCtorEq, and_false, List.not_mem_nil,
      or_false, false_or] at hsettled
    rcases hsettled with ⟨rfl, hn⟩ | ⟨rfl, hn⟩ | ⟨rfl, hn⟩
    · cases Nat.succ_inj.mp hn
      exact hst.life_of_refresh (Option.some.inj hcall).symm ▸ rfl
    · cases Nat.succ_inj.mp hn
      exact hst.life_of_refresh (Option.some.inj hcall).symm ▸ rfl
    · cases Nat.succ_inj.mp hn
      have hr : s.pc.routine = .op .writeFrame := (Option.some.inj hcall).symm
      have hlife : lifeSettled s.life = true := h.settled (by
        revert hpc hr
        generalize s.pc = pc
        revert pc
        decide)
      have heq := hst.life_of_writeFrame hr
      rw [← heq] at hlife
      exact hlife

/-- The end of an operation leaves a lifecycle state a host can see. -/
theorem Settling.lifeSettled_of_end {s t : State} (h : Settling s) (hpc : s.pc ∈ returnLines) (hst : Returns s t)
    (hrs : t.rs = []) : lifeSettled t.life = true := by
  rw [hst.rs] at hrs
  obtain ⟨op, hop⟩ := chainOk_nil (hrs ▸ h.chain)
  cases hst with
  | plain hr =>
    by_cases haddr : s.pc.routine ∈ [Routine.op .setWindow, .op .setCursor]
    · rw [lifeOk_ready h.life hrs haddr]; rfl
    · refine h.settled ?_
      revert hpc hr haddr hop
      generalize s.pc = pc
      revert op pc
      simp [returnLines, plainRoutines, settledLines]
  | life l _ hl => exact hl
  | reset hreset => rw [hreset] at hop; cases hop
  | shown => rfl
  | packed fb hpack => exact h.settled (by rw [hpack]; decide)

/-- An error line leaves a lifecycle state a host can see. -/
theorem Settling.lifeSettled_of_raise {s t : State} {c : Cause} (h : Settling s) (hst : Raises s c t)
    (code : Option (BitVec 4)) : lifeSettled (lifeAfter c code t.life) = true := by
  cases hst with
  | exhausted => rfl
  | size hpc => exact h.settled (by rw [hpc]; decide)

theorem seqInv_idle {s : State} (hact : s.flags.active = false) (hpc : s.pc = ⟨.idle, 0⟩) (hrs : s.rs = [])
    (hlife : lifeSettled s.life = true) : seqInv s := by
  simp [seqInv, hact, hpc, hrs, hlife]

/-- While the sequencer is idle its part of the invariant depends on the control registers and `life` only. -/
theorem seqInv_of_idle {s t : State} (h : seqInv s) (hact : s.flags.active = false) (hflags : t.flags = s.flags)
    (hpc : t.pc = s.pc) (hrs : t.rs = s.rs) (hlife : t.life = s.life) : seqInv t := by
  simp only [seqInv, hact, Bool.false_eq_true, if_false] at h
  obtain ⟨hpc', hrs', hlife'⟩ := h
  exact seqInv_idle (hflags ▸ hact) (hpc.trans hpc') (hrs.trans hrs') (hlife ▸ hlife')

theorem lifeSettled_transportFailure (r : Request) (code : Option (BitVec 4)) (l : Life) :
    lifeSettled (lifeAfter (.transportFailure r) code l) = true := by
  simp only [lifeAfter]
  split <;> rfl

theorem seqInv_raise {s : State} {c : Cause} {code : Option (BitVec 4)} (hlife : lifeSettled (lifeAfter c code s.life) = true) :
    seqInv (raise c code s) := seqInv_idle rfl rfl rfl hlife

/-- Between two requests the sequencer comes to the next request or to the end of the operation, and the invariant holds there. -/
theorem Settling.settle_next {n : Nat} {s : State} (h : Settling s) (hmem : memInv s) (hn : rank s.pc < n) :
    ∃ t, settle n s = .next t ∧ seqInv t ∧ memInv t := by
  induction n generalizing s with
  | zero => exact absurd hn (Nat.not_lt_zero _)
  | succ n ih =>
    cases hl : line s with
    | ask r =>
      refine ⟨s, settle_ask n s r hl, ?_, hmem⟩
      simp only [seqInv, h.active, if_true]
      exact ⟨by simp [atRequest, hl], h.chain, h.counters, h.life⟩
    | silent t =>
      obtain ⟨ht, hrank⟩ := h.silent (line_silent_inv hl)
      rw [settle_silent n s t hl]
      exact ih ht ((line_silent_inv hl).memInv hmem) (by omega)
    | ret t =>
      obtain ⟨hpc, hst⟩ := line_ret_inv hl
      cases hrs : t.rs with
      | nil =>
        have hlife : lifeSettled t.life = true := h.lifeSettled_of_end hpc hst hrs
        exact ⟨t.finish, settle_ret_nil n s t hl hrs, seqInv_idle rfl rfl hrs hlife, memInv_of_eq (s := t) rfl rfl (hst.memInv hmem)⟩
      | cons f fs =>
        obtain ⟨ht, hrank⟩ := h.return hpc hst hrs
        rw [settle_ret_cons n s t f fs hl hrs]
        exact ih ht (afterCall_memInv _ _ (memInv_of_eq (s := t) rfl rfl (hst.memInv hmem))) (by rw [returnTo_pc]; omega)
    | raise c t =>
      have hst := line_raise_inv hl
      exact ⟨_, settle_raise n s t c hl, seqInv_raise (h.lifeSettled_of_raise hst _), raise_memInv _ _ (hst.memInv hmem)⟩
    | stop f =>
      have hno := lineOk_of_stop hl
      rw [h.labelled] at hno
      cases hno

/-! ### The answer to a request, the start of an operation -/

/-- A request line is followed by a labelled line, from which the next request is near (log entry 4). -/
theorem requestLines_next {b : Byte} {pc : PC} {r : Request} (h : (pc, r) ∈ requestLines b) :
    (∀ c, lineOk c ⟨pc.routine, pc.step + 1⟩ = true) ∧ ⟨pc.routine, pc.step + 1⟩ ∉ settledLines ∧
      rank ⟨pc.routine, pc.step + 1⟩ < settleFuel := by
  simp only [requestLines, List.mem_cons, Prod.mk.injEq, List.not_mem_nil, or_false] at h
  rcases h with ⟨rfl, -⟩ | ⟨rfl, -⟩ | ⟨rfl, -⟩ | ⟨rfl, -⟩ | ⟨rfl, -⟩ | ⟨rfl, -⟩ | ⟨rfl, -⟩ | ⟨rfl, -⟩ | ⟨rfl, -⟩ | ⟨rfl, -⟩ |
    ⟨rfl, -⟩ | ⟨rfl, -⟩ | ⟨rfl, -⟩ | ⟨rfl, -⟩ | ⟨rfl, -⟩ | ⟨rfl, -⟩ | ⟨rfl, -⟩ | ⟨rfl, -⟩ | ⟨rfl, -⟩ | ⟨rfl, -⟩ | ⟨rfl, -⟩ |
    ⟨rfl, -⟩ | ⟨rfl, -⟩ | ⟨rfl, -⟩ | ⟨rfl, -⟩ | ⟨rfl, -⟩ | ⟨rfl, -⟩ | ⟨rfl, -⟩ | ⟨rfl, -⟩ <;>
  exact ⟨fun _ => rfl, by decide, by decide⟩

/-- The rest of a request's line counts a poll or changes the ghost panel, and goes to the next line. -/
theorem answered_eq (s : State) : answered s = { s with
    pc := ⟨s.pc.routine, s.pc.step + 1⟩, cnt := { s.cnt with polls := (answered s).cnt.polls },
    panel := (answered s).panel } := by
  unfold answered
  split <;> rfl

@[simp] theorem answered_pc (s : State) : (answered s).pc = ⟨s.pc.routine, s.pc.step + 1⟩ := by rw [answered_eq]
@[simp] theorem answered_rs (s : State) : (answered s).rs = s.rs := by rw [answered_eq]
@[simp] theorem answered_flags (s : State) : (answered s).flags = s.flags := by rw [answered_eq]
@[simp] theorem answered_life (s : State) : (answered s).life = s.life := by rw [answered_eq]
@[simp] theorem answered_hist (s : State) : (answered s).hist = s.hist := by rw [answered_eq]
@[simp] theorem answered_pins (s : State) : (answered s).pins = s.pins := by rw [answered_eq]
@[simp] theorem answered_fb (s : State) : (answered s).fb = s.fb := by rw [answered_eq]

theorem countersOk_answered (s : State) : countersOk (answered s).cnt = countersOk s.cnt := by rw [answered_eq]; rfl

/-- The state after a request that was answered `ok`, at the next line. -/
def State.replied (s : State) (r : Request) (l : Level) : State :=
  answered ((requestEffect r l s).record r (okReply r l))

section Replied

variable (s : State) (r : Request) (l : Level)

@[simp] theorem replied_pc : (s.replied r l).pc = ⟨s.pc.routine, s.pc.step + 1⟩ := by simp [State.replied]
@[simp] theorem replied_rs : (s.replied r l).rs = s.rs := by simp [State.replied]
@[simp] theorem replied_life : (s.replied r l).life = s.life := by simp [State.replied]
@[simp] theorem replied_hist : (s.replied r l).hist = s.hist ++ [⟨r, okReply r l⟩] := by simp [State.replied]
@[simp] theorem replied_pins : (s.replied r l).pins = (requestEffect r l s).pins := by simp [State.replied]
@[simp] theorem replied_fb : (s.replied r l).fb = s.fb := by simp [State.replied]
@[simp] theorem replied_flags : (s.replied r l).flags = (requestEffect r l s).flags := by simp [State.replied]

theorem countersOk_replied : countersOk (s.replied r l).cnt = countersOk s.cnt := by
  rw [State.replied, countersOk_answered]; simp

end Replied

/-- A step of a running operation whose request does not fail. -/
theorem step_replied {s : State} {r : Request} (hact : s.flags.active = true) (hl : line s = .ask r)
    (hf : s.failsAt s.hist.length = false) : step s = settle settleFuel (s.replied r (s.busyAt s.hist.length)) := by
  rw [step_active s hact, sequencerStep_ok s r hl hf]
  rfl

/-- The line of a running operation asks a request. -/
theorem seqInv_asks {s : State} (h : seqInv s) (hact : s.flags.active = true) : ∃ r, line s = .ask r := by
  simp only [seqInv, hact, if_true] at h
  obtain ⟨hreq, -⟩ := h
  unfold atRequest at hreq
  split at hreq
  case h_1 r hl => exact ⟨r, hl⟩
  all_goals cases hreq

theorem settling_replied {s : State} {r : Request} (h : seqInv s) (hact : s.flags.active = true) (hl : line s = .ask r)
    (l : Level) : Settling (s.replied r l) ∧ rank (s.replied r l).pc < settleFuel := by
  simp only [seqInv, hact, if_true] at h
  obtain ⟨-, hchain, hcounters, hlife⟩ := h
  obtain ⟨hok, hsettled, hrank⟩ := requestLines_next (line_ask_mem hl)
  refine ⟨⟨?_, ?_, ?_, ?_, ?_, ?_⟩, by rw [replied_pc]; exact hrank⟩
  · rw [replied_flags, requestEffect_active, hact]
  · rw [replied_pc]; exact hok _
  · rw [replied_pc, replied_rs]; exact hchain
  · rw [replied_rs, countersOk_replied]; exact hcounters
  · rw [lifeOk_congr (s := s) _ (replied_life s r l)]
    · exact hlife
    · rw [replied_rs, replied_pc]; exact runningRoutine_congr s.pc ⟨s.pc.routine, s.pc.step + 1⟩ rfl s.rs
  · rw [replied_pc]; exact fun hmem => absurd hmem hsettled

/-- SET_WINDOW and SET_CURSOR are accepted in `Ready` only (R22). -/
theorem ready_of_acceptance {op : HostOp} {s : State} (hacc : acceptance op s = none) (hop : op = .setWindow ∨ op = .setCursor) :
    s.life = .ready := by
  unfold acceptance at hacc
  split at hacc
  case h_1 => cases hacc
  case h_2 hv =>
    revert hv
    cases s.life <;> rcases hop with rfl | rfl <;> simp [verdict]

/-- The acceptance check gives only errors that leave `life` as it is. -/
theorem acceptance_mem {op : HostOp} {s : State} {c : Cause} (h : acceptance op s = some c) :
    c ∈ [Cause.resourceUnavailable, .invalidState, .unsupportedInput] := by
  unfold acceptance at h
  split at h
  case h_1 hv => cases h; exact verdict_mem hv
  case h_2 =>
    obtain ⟨-, h⟩ := Option.ite_none_right_eq_some.mp h
    cases h
    decide

theorem settling_accept {op : HostOp} {s : State} (hacc : acceptance op s = none) (hlife : lifeSettled s.life = true) :
    Settling (accept op s) ∧ rank (accept op s).pc < settleFuel := by
  refine ⟨⟨by simp, by cases op <;> rfl, rfl, rfl, ?_, fun _ => by simpa using hlife⟩, by rw [accept_pc]; cases op <;> decide⟩
  unfold lifeOk
  split
  case h_1 hrun => cases hrun; simpa using ready_of_acceptance hacc (.inl rfl)
  case h_2 hrun => cases hrun; simpa using ready_of_acceptance hacc (.inr rfl)
  case h_3 => rfl

theorem accept_memInv {s : State} (op : HostOp) (h : memInv s) : memInv (accept op s) := memInv_of_eq (accept_fb op s) (accept_panel op s) h

/-! ### Packets of the port -/

/-- A request of a frame: a write of `DC` or `CS`, or an SPI write (R92). -/
def frameRequest : Request → Bool
  | .pinWrite .dc _ | .pinWrite .cs _ | .spiWrite _ => true
  | _ => false

theorem Asked.bind_keeps {P : State → Prop} {x : Asked} {f : State → Asked} (hx : P x.state) (hf : ∀ t, P t → P (f t).state) :
    P (x.bind f).state := by
  cases x with
  | ok t => exact hf t hx
  | failed r t => exact hx

/-- What holds before a packet and is kept by the requests of frames, by the byte parameter and by the records of the ghost panel and
the shadow registers holds when the transmission stops. -/
theorem sendPacket_keeps {P : State → Prop} (hask : ∀ r s, frameRequest r = true → P s → P (ask r s).state)
    (hbyte : ∀ b s, P s → P (s.setByte b)) (hdata : ∀ s, P s → P (frameReceived s))
    (hshadow : ∀ k sent s, P s → P (recordShadow k sent s)) (k : PacketKind) (data : List Byte) (s : State)
    (hs : P (s.setPanel (s.panel.begin k s.shadow))) : P (sendPacket k data s).state := by
  have hframe (dc : Level) (b : Byte) (t : State) (ht : P t) : P (sendFrame dc b t).state :=
    Asked.bind_keeps (Asked.bind_keeps (Asked.bind_keeps (hask _ _ rfl (hbyte b t ht)) fun u => hask _ u rfl)
      fun u => hask _ u rfl) fun u => hask _ u rfl
  have hframes (sent bs : List Byte) (t : State) (ht : P t) : P (sendDataFrames k sent bs t).state := by
    induction bs generalizing sent t with
    | nil => exact ht
    | cons b bs ih => exact Asked.bind_keeps (hframe _ b t ht) fun u hu => ih _ _ (hshadow k _ _ (hdata u hu))
  exact Asked.bind_keeps (hframe _ _ _ hs) fun t ht => hframes [] data t ht

/-- What no packet changes: control, results, counters, `FB` (R131; log entry 12). -/
def SameControl (s t : State) : Prop :=
  t.pc = s.pc ∧ t.rs = s.rs ∧ t.flags = s.flags ∧ t.life = s.life ∧ t.res = s.res ∧ t.cnt = s.cnt ∧ t.fb = s.fb

theorem sameControl_ask {r : Request} {s t : State} (hr : frameRequest r = true) (h : SameControl s t) :
    SameControl s (ask r t).state := by
  have hflags (l : Level) : (requestEffect r l t).flags = t.flags := by
    revert hr
    unfold frameRequest
    split <;> intro hr
    case h_4 => cases hr
    all_goals rfl
  obtain ⟨-, he⟩ | ⟨-, he⟩ := ask_cases r t <;> rw [he]
  · simpa [SameControl, hflags] using h
  · exact h

theorem sameControl_recordShadow (k : PacketKind) (sent : List Byte) {s t : State} (h : SameControl s t) :
    SameControl s (recordShadow k sent t) := by
  unfold recordShadow
  split <;> exact h

theorem sendPacket_sameControl (k : PacketKind) (data : List Byte) (s : State) : SameControl s (sendPacket k data s).state :=
  sendPacket_keeps (P := SameControl s) (fun _ _ hr => sameControl_ask hr) (fun _ _ h => h) (fun _ h => h)
    (fun k sent _ => sameControl_recordShadow k sent) k data s ⟨rfl, rfl, rfl, rfl, rfl, rfl, rfl⟩

theorem sendPacket_memInv (k : PacketKind) (data : List Byte) {s : State} (h : memInv s) : memInv (sendPacket k data s).state := by
  refine sendPacket_keeps (P := memInv) (fun r t _ ht => ?_) (fun _ _ ht => ht) (fun _ ht => frameReceived_memInv ht)
    (fun k sent t ht => ?_) k data s (begin_memInv k h)
  · obtain ⟨-, he⟩ | ⟨-, he⟩ := ask_cases r t <;> rw [he]
    · exact memInv_of_eq (s := t) (by simp) (by simp) ht
    · exact ht
  · unfold recordShadow
    split
    case h_4 => exact windowSent_memInv (s := t.setShadow _) _ ht
    case h_6 => exact cursorSent_memInv (s := t.setShadow _) _ ht
    all_goals exact ht

/-- A packet of the port leaves the sequencer idle, with or without an error. -/
theorem seqInv_transmitted {k : PacketKind} {data : List Byte} {s : State} (h : seqInv s) (hact : s.flags.active = false) :
    seqInv (transmitted (sendPacket k data s)) := by
  have hsame := sendPacket_sameControl k data s
  revert hsame
  cases sendPacket k data s with
  | ok t =>
    rintro ⟨hpc, hrs, hflags, hlife, -⟩
    exact seqInv_of_idle h hact hflags hpc hrs hlife
  | failed q t => exact fun _ => seqInv_raise (lifeSettled_transportFailure q _ _)

theorem memInv_transmitted {k : PacketKind} {data : List Byte} {s : State} (h : memInv s) :
    memInv (transmitted (sendPacket k data s)) := by
  have hmem := sendPacket_memInv k data h
  revert hmem
  cases sendPacket k data s with
  | ok t => exact id
  | failed q t => exact raise_memInv _ _

/-! ### The step -/

/-- The parts of the invariant that depend on the inputs only. -/
theorem inputs_inv {s t : State} (hsame : SameInputs s t) (hargs : argsInv s) (hinbox : s.inbox.all (pendingOk s.cfg) = true) :
    argsInv t ∧ t.inbox.all (pendingOk t.cfg) = true := by
  obtain ⟨hcfg, hargs', -, -, hinbox'⟩ := hsame
  rw [argsInv, hargs', hcfg, hinbox']
  exact ⟨hargs, hinbox⟩

/-- Every instruction, from an idle state that meets the invariant, answers a next state that meets it. -/
theorem exec_invariant {s : State} (i : Instr) (hact : s.flags.active = false) (h : Safety.Invariant s) :
    ∃ t, exec i s = .next t ∧ Safety.Invariant t := by
  obtain ⟨hseq, hmem, hargs, hinbox⟩ := h
  have hlife : lifeSettled s.life = true := by
    simp only [seqInv, hact, Bool.false_eq_true, if_false] at hseq
    exact hseq.2.2
  have hnext : ∃ t, exec i s = .next t ∧ seqInv t ∧ memInv t := by
    obtain ⟨op, he⟩ | ⟨code, he⟩ | ⟨k, data, he⟩ := exec_cases i s <;> rw [he]
    · cases hacc : acceptance op s with
      | some c =>
        refine ⟨_, issue_rejected op s c hact hacc, seqInv_raise ?_, raise_memInv _ _ hmem⟩
        have hc := acceptance_mem hacc
        simp only [List.mem_cons, List.not_mem_nil, or_false] at hc
        rcases hc with rfl | rfl | rfl <;> exact hlife
      | none =>
        rw [issue_accepted op s hact hacc]
        obtain ⟨hset, hrank⟩ := settling_accept hacc hlife
        exact hset.settle_next (accept_memInv op hmem) hrank
    · rw [issueReserved, hact]
      exact ⟨_, rfl, seqInv_raise hlife, raise_memInv _ _ hmem⟩
    · exact ⟨_, rfl, seqInv_transmitted hseq hact, memInv_transmitted hmem⟩
  obtain ⟨t, ht, hseq', hmem'⟩ := hnext
  exact ⟨t, ht, hseq', hmem', inputs_inv (exec_sameInputs ht) hargs hinbox⟩

/-- A step of a running operation answers a next state that meets the invariant. -/
theorem step_active_invariant {s : State} (hact : s.flags.active = true) (h : Safety.Invariant s) :
    ∃ t, step s = .next t ∧ Safety.Invariant t := by
  obtain ⟨hseq, hmem, hargs, hinbox⟩ := h
  obtain ⟨r, hl⟩ := seqInv_asks hseq hact
  have hnext : ∃ t, step s = .next t ∧ seqInv t ∧ memInv t := by
    cases hf : s.failsAt s.hist.length with
    | true =>
      rw [step_active s hact, sequencerStep_failed s r hl hf]
      exact ⟨_, rfl, seqInv_raise (lifeSettled_transportFailure r _ _), raise_memInv _ _ hmem⟩
    | false =>
      rw [step_replied hact hl hf]
      obtain ⟨hset, hrank⟩ := settling_replied hseq hact hl (s.busyAt s.hist.length)
      exact hset.settle_next (answered_memInv (memInv_of_eq (s := s) (by simp) (by simp) hmem)) hrank
  obtain ⟨t, ht, hseq', hmem'⟩ := hnext
  rw [step_active s hact] at ht
  exact ⟨t, by rw [step_active s hact, ht], hseq', hmem', inputs_inv (sequencerStep_sameInputs ht) hargs hinbox⟩

/-- The state with the oldest pending act taken meets the invariant. -/
theorem setInbox_invariant {s : State} {p : Pending} {rest : List Pending} (hact : s.flags.active = false)
    (h : Safety.Invariant s) (hi : s.inbox = p :: rest) :
    Safety.Invariant (s.setInbox rest) ∧ pendingOk s.cfg p = true := by
  obtain ⟨hseq, hmem, hargs, hinbox⟩ := h
  rw [hi, List.all_cons, Bool.and_eq_true] at hinbox
  exact ⟨⟨seqInv_of_idle hseq hact rfl rfl rfl rfl, hmem, hargs, hinbox.2⟩, hinbox.1⟩

/-- A host write of a register that exists answers a next state that meets the invariant. -/
theorem hostWrite_invariant {s : State} (reg v : Nat) (hreg : reg + 1 < 12) (hact : s.flags.active = false)
    (h : Safety.Invariant s) : ∃ t, hostWrite (reg + 1) v s = .next t ∧ Safety.Invariant t := by
  obtain ⟨hseq, hmem, hargs, hinbox⟩ := id h
  obtain ⟨hx0, hy0, hx1, hy1, hw, hh⟩ := id hargs
  have hv := operandValue_lt s.cfg v
  unfold hostWrite
  rw [hact]
  split
  case isTrue hno => cases hno
  have hset (a : Operands) (ha : argsInv (s.setArgs a)) : Safety.Invariant (s.setArgs a) :=
    ⟨seqInv_of_idle hseq hact rfl rfl rfl rfl, hmem, ha, hinbox⟩
  split
  case h_1 | h_2 | h_3 | h_4 => exact ⟨s, rfl, h⟩
  case h_5 => exact ⟨_, rfl, hset _ ⟨hv, hy0, hx1, hy1, hw, hh⟩⟩
  case h_6 => exact ⟨_, rfl, hset _ ⟨hx0, hv, hx1, hy1, hw, hh⟩⟩
  case h_7 => exact ⟨_, rfl, hset _ ⟨hx0, hy0, hv, hy1, hw, hh⟩⟩
  case h_8 => exact ⟨_, rfl, hset _ ⟨hx0, hy0, hx1, hv, hw, hh⟩⟩
  case h_9 => exact ⟨_, rfl, hset _ hargs⟩
  case h_10 => exact ⟨_, rfl, hset _ ⟨hx0, hy0, hx1, hy1, hv, hh⟩⟩
  case h_11 => exact ⟨_, rfl, hset _ ⟨hx0, hy0, hx1, hy1, hw, hv⟩⟩
  case h_12 => simp only [imp_false] at *; omega

end Sys2Proof.Machine

namespace Sys2Proof.Proofs

open Sys2Proof.Machine Sys2Proof.Safety

/-- Settles O8: a running operation's step settles on the next request or the end; an idle step takes one act that the invariant
says has a meaning. -/
theorem stepKeepsInvariant : Obligations.StepKeepsInvariant := by
  intro s h
  cases hact : s.flags.active with
  | true => exact step_active_invariant hact h
  | false =>
    cases hi : s.inbox with
    | nil => exact ⟨s, step_idle_empty s hact hi, h⟩
    | cons p rest =>
      obtain ⟨ht, hp⟩ := setInbox_invariant hact h hi
      cases p with
      | image img =>
        refine ⟨(s.setInbox rest).setImg img, by simp [step, hact, fetch, hi], ?_⟩
        obtain ⟨hseq, hmem, hargs, hinbox⟩ := ht
        exact ⟨seqInv_of_idle hseq hact rfl rfl rfl rfl, hmem, hargs, hinbox⟩
      | packet bytes =>
        cases hd : decodePacket s.cfg bytes with
        | error e => simp [pendingOk, hd] at hp
        | ok i =>
          rw [step_idle_code s (s.setInbox rest) (.packet bytes) i hact (by simp [fetch, hi]) hd]
          exact exec_invariant i hact ht
      | write reg v =>
        cases reg with
        | zero =>
          rw [step_idle_code s (s.setInbox rest) (.host (BitVec.ofNat 4 v)) _ hact (by simp [fetch, hi]) rfl]
          exact exec_invariant _ hact ht
        | succ reg =>
          rw [show step s = hostWrite (reg + 1) v (s.setInbox rest) by simp [step, hact, fetch, hi]]
          exact hostWrite_invariant reg v (by simpa [pendingOk] using hp) hact ht

end Sys2Proof.Proofs

/-! ## Rules of every step (R11, R23, R28, R34, R35, R39) -/

namespace Sys2Proof.Machine

open Sys2Proof.Safety

/-! ### What the silent lines leave alone -/

/-- The history, the pins and `busy_sample` are the same, and `fault` is not cleared. -/
def SameTrace (s t : State) : Prop :=
  t.hist = s.hist ∧ t.pins = s.pins ∧ t.flags.busySample = s.flags.busySample ∧ (s.flags.fault = true → t.flags.fault = true)

theorem SameTrace.refl (s : State) : SameTrace s s := ⟨rfl, rfl, rfl, id⟩

theorem SameTrace.trans {s t u : State} (hst : SameTrace s t) (htu : SameTrace t u) : SameTrace s u := by
  obtain ⟨hhist, hpins, hbusy, hfault⟩ := hst
  obtain ⟨hhist', hpins', hbusy', hfault'⟩ := htu
  exact ⟨hhist'.trans hhist, hpins'.trans hpins, hbusy'.trans hbusy, fun h => hfault' (hfault h)⟩

theorem Silent.sameTrace {s t : State} (h : Silent s t) : SameTrace s t := by cases h <;> exact ⟨rfl, rfl, rfl, id⟩

theorem Returns.sameTrace {s t : State} (h : Returns s t) : SameTrace s t := by cases h <;> exact ⟨rfl, rfl, rfl, id⟩

theorem Raises.sameTrace {s t : State} {c : Cause} (h : Raises s c t) : SameTrace s t := by
  cases h <;> exact ⟨rfl, rfl, rfl, id⟩

theorem returnTo_sameTrace (f : PC) (fs : List PC) (s : State) : SameTrace s (returnTo f fs s) := by
  rw [returnTo, afterCall_eq]
  exact ⟨rfl, rfl, rfl, id⟩

theorem finish_sameTrace (s : State) : SameTrace s s.finish := ⟨rfl, rfl, rfl, id⟩

theorem raise_sameTrace (c : Cause) (code : Option (BitVec 4)) (s : State) : SameTrace s (raise c code s) :=
  ⟨rfl, rfl, rfl, fun _ => rfl⟩

theorem settle_sameTrace {n : Nat} {s u : State} (h : settle n s = .next u) : SameTrace s u :=
  settle_keeps (SameTrace s)
    (fun _ _ hl hs => hs.trans (line_silent_inv hl).sameTrace)
    (fun _ t hl _ hs => (hs.trans (line_ret_inv hl).2.sameTrace).trans (finish_sameTrace t))
    (fun _ t f fs hl _ hs => (hs.trans (line_ret_inv hl).2.sameTrace).trans (returnTo_sameTrace f fs t))
    (fun _ t c hl hs => (hs.trans (line_raise_inv hl).sameTrace).trans (raise_sameTrace c t.issuedCode t))
    n s u (.refl s) h

/-! ### One step of a running operation -/

/-- All a step of a running operation can be: its request answered and the silent lines after it, its request failed, or (at no
request line) silent lines only. -/
theorem sequencerStep_cases {s u : State} (h : sequencerStep s = .next u) :
    (∃ r, line s = .ask r ∧ s.failsAt s.hist.length = false ∧ SameTrace (s.replied r (s.busyAt s.hist.length)) u) ∨
    (∃ r, line s = .ask r ∧ s.failsAt s.hist.length = true ∧ SameTrace (s.record r .fail) u ∧ u.flags.fault = true) ∨
    ((∀ r, line s ≠ .ask r) ∧ SameTrace s u) := by
  by_cases hl : ∃ r, line s = .ask r
  case neg => exact .inr (.inr ⟨not_exists.mp hl, settle_sameTrace (sequencerStep_silent s (not_exists.mp hl) ▸ h)⟩)
  obtain ⟨r, hl⟩ := hl
  cases hf : s.failsAt s.hist.length with
  | false =>
    rw [sequencerStep_ok s r hl hf] at h
    exact .inl ⟨r, hl, rfl, settle_sameTrace h⟩
  | true =>
    rw [sequencerStep_failed s r hl hf] at h
    cases h
    exact .inr (.inl ⟨r, hl, rfl, raise_sameTrace _ _ _, rfl⟩)

/-- Whether an answered request is a poll decides what becomes of `busy_sample`. -/
theorem requestEffect_busySample {r : Request} (hr : r ≠ .pinRead) (l : Level) (s : State) :
    (requestEffect r l s).flags.busySample = s.flags.busySample := by
  cases r <;> first | rfl | contradiction

theorem step_busySample {s u : State} (h : sequencerStep s = .next u) :
    (line s = .ask .pinRead → s.failsAt s.hist.length = false → u.flags.busySample = (s.busyAt s.hist.length).toBool) ∧
    (line s ≠ .ask .pinRead ∨ s.failsAt s.hist.length = true → u.flags.busySample = s.flags.busySample) := by
  obtain ⟨r, hl, hf, -, -, hbusy, -⟩ | ⟨r, hl, hf, ⟨-, -, hbusy, -⟩, -⟩ | ⟨hl, -, -, hbusy, -⟩ := sequencerStep_cases h
  · rw [hl, hf, hbusy, replied_flags]
    refine ⟨?_, ?_⟩
    · rintro ⟨⟩ -
      rfl
    · rintro (hr | hno)
      · exact requestEffect_busySample (fun e => hr (by rw [e])) _ s
      · cases hno
  · rw [hf, hbusy]
    exact ⟨nofun, fun _ => rfl⟩
  · exact ⟨fun hask => absurd hask (hl _), fun _ => hbusy⟩

/-! ### One step of the machine -/

/-- A packet of the port only appends to the history. -/
theorem sendPacket_hist_grows (k : PacketKind) (data : List Byte) (s : State) :
    ∃ es, (sendPacket k data s).state.hist = s.hist ++ es := by
  refine sendPacket_keeps (P := fun t => ∃ es, t.hist = s.hist ++ es) (fun r t _ ⟨es, ht⟩ => ?_) (fun _ _ ht => ht)
    (fun _ ht => ht) (fun k sent t ht => ?_) k data s ⟨[], (List.append_nil _).symm⟩
  · obtain ⟨-, he⟩ | ⟨-, he⟩ := ask_cases r t <;> rw [he]
    · exact ⟨es ++ [⟨r, _⟩], by simp [ht]; rfl⟩
    · exact ⟨es ++ [⟨r, .fail⟩], by simp [ht]⟩
  · unfold recordShadow
    split <;> exact ht

/-- The history grows, and `fault` is not cleared. -/
def Grows (s t : State) : Prop := (∃ es, t.hist = s.hist ++ es) ∧ (s.flags.fault = true → t.flags.fault = true)

theorem SameTrace.grows {s t : State} (h : SameTrace s t) : Grows s t := by
  obtain ⟨hhist, -, -, hfault⟩ := h
  exact ⟨⟨[], by simp [hhist]⟩, hfault⟩

theorem sequencerStep_grows {s u : State} (h : sequencerStep s = .next u) : Grows s u := by
  obtain ⟨r, -, -, hhist, -, -, hfault⟩ | ⟨r, -, -, ⟨hhist, -⟩, hfault⟩ | ⟨-, htrace⟩ := sequencerStep_cases h
  · exact ⟨⟨_, by rw [hhist, replied_hist]⟩, fun hs => hfault (by simpa using hs)⟩
  · exact ⟨⟨_, by rw [hhist, State.record_hist]⟩, fun _ => hfault⟩
  · exact htrace.grows

theorem accept_sameTrace (op : HostOp) (s : State) : SameTrace s (accept op s) := by simp [SameTrace]

theorem exec_grows {i : Instr} {s u : State} (h : exec i s = .next u) : Grows s u := by
  obtain ⟨op, he⟩ | ⟨code, he⟩ | ⟨k, data, he⟩ := exec_cases i s <;> rw [he] at h
  · cases hact : s.flags.active with
    | true => rw [issue_overlapping op s hact] at h; cases h
    | false =>
      cases hacc : acceptance op s with
      | some c => rw [issue_rejected op s c hact hacc] at h; cases h; exact (raise_sameTrace _ _ s).grows
      | none => rw [issue_accepted op s hact hacc] at h; exact ((accept_sameTrace op s).trans (settle_sameTrace h)).grows
  · unfold issueReserved at h
    split at h
    · cases h
    · cases h; exact (raise_sameTrace _ _ s).grows
  · cases h
    have hgrows := sendPacket_hist_grows k data s
    have hsame := sendPacket_sameControl k data s
    revert hgrows hsame
    cases sendPacket k data s with
    | ok t => rintro hgrows ⟨-, -, hflags, -⟩; exact ⟨hgrows, by rw [transmitted, show t.flags = s.flags from hflags]; exact id⟩
    | failed q t => exact fun hgrows _ => ⟨hgrows, fun _ => rfl⟩

theorem step_grows {s u : State} (h : step s = .next u) : Grows s u := by
  have hfetch := fetch_state s
  have hinbox : SameTrace s (s.setInbox s.inbox.tail) := ⟨rfl, rfl, rfl, id⟩
  obtain ⟨-, hu⟩ | ⟨-, -, rfl⟩ | ⟨-, reg, v, t, hf, hu⟩ | ⟨-, img, t, hf, rfl⟩ | ⟨-, c, t, i, hf, -, hu⟩ := step_cases s u h
  · exact sequencerStep_grows hu
  · exact (SameTrace.refl u).grows
  · rw [hf] at hfetch
    cases hfetch
    rw [hostWrite_next hu]
    exact SameTrace.grows ⟨rfl, rfl, rfl, id⟩
  · rw [hf] at hfetch
    cases hfetch
    exact SameTrace.grows ⟨rfl, rfl, rfl, id⟩
  · rw [hf] at hfetch
    cases hfetch
    exact (exec_grows hu : Grows (s.setInbox s.inbox.tail) u)

end Sys2Proof.Machine

namespace Sys2Proof.Proofs

open Sys2Proof.Machine Sys2Proof.Safety

/-- Settles O14: the invariant has the sequencer at a request line; the request is recorded, and the silent lines record nothing. -/
theorem oneRequestPerStep : Obligations.OneRequestPerStep := by
  intro s t hinv hact hstep
  obtain ⟨r, hl⟩ := seqInv_asks hinv.1 hact
  rw [step_active s hact] at hstep
  obtain ⟨r', hl', -, hhist, -⟩ | ⟨r', hl', -, ⟨hhist, -⟩, -⟩ | ⟨hno, -⟩ := sequencerStep_cases hstep
  · exact ⟨r', _, hl', by rw [hhist, replied_hist]⟩
  · exact ⟨r', _, hl', by rw [hhist, State.record_hist]⟩
  · exact absurd hl (hno r)

/-- Settles O15: requests append, nothing else writes the history. -/
theorem historyOnlyGrows : Obligations.HistoryOnlyGrows := fun _ _ h => (step_grows h).1

/-- Settles O16: every line, every request and every instruction keeps the inputs. -/
theorem inputsNeverWritten : Obligations.InputsNeverWritten :=
  ⟨fun s _ hact h => sequencerStep_sameInputs ((step_active s hact).symm.trans h), fun _ _ _ h => exec_sameInputs h⟩

/-- Settles O18: an error sets `fault`, nothing else writes it. -/
theorem faultIsSticky : Obligations.FaultIsSticky := fun _ _ h => (step_grows h).2

/-- Settles O19: `busy_sample` is written by an answered poll and by nothing else. -/
theorem busySampleOnlyByPoll : Obligations.BusySampleOnlyByPoll := fun s _ hact h =>
  step_busySample ((step_active s hact).symm.trans h)

end Sys2Proof.Proofs

/-! ## What a call chain rules out (R27) -/

namespace Sys2Proof.Machine

open Sys2Proof.Safety

/-- What holds at the next request or at the end of an operation, from what holds of every line between. -/
theorem settle_induct {Q R : State → Prop} (hsilent : ∀ s t, Q s → Silent s t → Q t)
    (hreturn : ∀ s t f fs, Q s → s.pc ∈ returnLines → Returns s t → t.rs = f :: fs → Q (returnTo f fs t))
    (hstay : ∀ s, Q s → R s) (hend : ∀ s t, Q s → s.pc ∈ returnLines → Returns s t → t.rs = [] → R t.finish)
    (hraise : ∀ s t c, Q s → Raises s c t → R (raise c t.issuedCode t)) {n : Nat} {s u : State} (hs : Q s)
    (h : settle n s = .next u) : R u := by
  induction n generalizing s with
  | zero => cases h; exact hstay _ hs
  | succ n ih =>
    cases hl : line s with
    | ask r => rw [settle_ask n s r hl] at h; cases h; exact hstay _ hs
    | silent t => rw [settle_silent n s t hl] at h; exact ih (hsilent s t hs (line_silent_inv hl)) h
    | ret t =>
      obtain ⟨hpc, hst⟩ := line_ret_inv hl
      cases hrs : t.rs with
      | nil => rw [settle_ret_nil n s t hl hrs] at h; cases h; exact hend s t hs hpc hst hrs
      | cons f fs => rw [settle_ret_cons n s t f fs hl hrs] at h; exact ih (hreturn s t f fs hs hpc hst hrs) h
    | raise c t => rw [settle_raise n s t c hl] at h; cases h; exact hraise s t c hs (line_raise_inv hl)
    | stop f => rw [settle_stop n s f hl] at h; cases h

/-- A silent line keeps the call chain. -/
theorem Silent.chainOk {s t : State} (hst : Silent s t) (h : chainOk s.pc.routine s.rs = true) :
    chainOk t.pc.routine t.rs = true := by
  cases hst with
  | move => exact h
  | command k hcall | data b hcall | call p r hcall => exact chainOk_call hcall h

/-- All a silent line's `pc` can be: in the same loop routine, or the first line of a routine called. -/
theorem Silent.pc_cases {s t : State} (hst : Silent s t) :
    (s.pc.routine ∈ loopRoutines ∧ t.pc.routine = s.pc.routine ∧ t.rs = s.rs ∧ rank t.pc < rank s.pc) ∨
    (∃ q, callee s.pc.routine s.pc.step = some q ∧ t.pc = ⟨q, 0⟩ ∧ t.rs = ⟨s.pc.routine, s.pc.step + 1⟩ :: s.rs) := by
  cases hst with
  | move c n hloop _ _ hrank => exact .inl ⟨hloop, rfl, rfl, hrank⟩
  | command k hcall | data b hcall | call p r hcall => exact .inr ⟨_, hcall, rfl, rfl⟩

/-- A return keeps the call chain; the return address is the line after a call of the routine that returns. -/
theorem Returns.chainOk {s t : State} {f : PC} {fs : List PC} (hst : Returns s t) (hrs : t.rs = f :: fs)
    (h : chainOk s.pc.routine s.rs = true) :
    ∃ q n, f = ⟨q, n + 1⟩ ∧ callee q n = some s.pc.routine ∧ Safety.chainOk q fs = true := by
  rw [← hst.rs, hrs] at h
  exact chainOk_cons h

/-! ### FB (R28, R35) -/

/-- Neither PACK nor the line of DISPLAY that calls it; `FB` and `fb_valid` are as in `s`. -/
def NoPack (s t : State) : Prop :=
  chainOk t.pc.routine t.rs = true ∧ t.pc.routine ≠ .op .pack ∧ t.pc ≠ ⟨.op .display, 0⟩ ∧
    t.fb = s.fb ∧ t.flags.fbValid = s.flags.fbValid

theorem callee_pack {r : Routine} {n : Nat} (h : callee r n = some (.op .pack)) : (⟨r, n⟩ : PC) = ⟨.op .display, 0⟩ := by
  unfold callee at h
  split at h <;> cases h
  rfl

theorem callee_caller {r q : Routine} {n : Nat} (h : callee r n = some q) :
    r ≠ .op .pack ∧ r ≠ .waitIdle ∧ r ≠ .sendCommand ∧ r ≠ .sendData ∧ r ≠ .op .teardown ∧ q ≠ .op .display := by
  unfold callee at h
  split at h <;> cases h <;> decide

theorem afterCall_fb (r : Routine) (n : Nat) (s : State) : (afterCall r n s).fb = s.fb := by rw [afterCall_eq]

/-- From such a line the sequencer writes neither `FB` nor `fb_valid`. -/
theorem settle_noPack {n : Nat} {s t u : State} (ht : NoPack s t) (h : settle n t = .next u) :
    u.fb = s.fb ∧ u.flags.fbValid = s.flags.fbValid := by
  refine settle_induct (Q := NoPack s) (R := fun u => u.fb = s.fb ∧ u.flags.fbValid = s.flags.fbValid)
    (fun a b hQ hst => ?_) (fun a b f fs hQ hpc hst hrs => ?_) (fun a hQ => hQ.2.2.2) (fun a b hQ hpc hst hrs => ?_)
    (fun a b c hQ hst => ?_) ht h <;> obtain ⟨hchain, hpack, hdisplay, hfb, hvalid⟩ := hQ
  · have hfb' : b.fb = a.fb ∧ b.flags = a.flags := by cases hst <;> exact ⟨rfl, rfl⟩
    refine ⟨hst.chainOk hchain, ?_, ?_, hfb'.1.trans hfb, by rw [hfb'.2, hvalid]⟩
    · obtain ⟨-, hr, -⟩ | ⟨q, hcall, hq, -⟩ := hst.pc_cases
      · rwa [hr]
      · rw [hq]
        rintro ⟨⟩
        exact hdisplay (callee_pack hcall)
    · obtain ⟨hloop, hr, -⟩ | ⟨q, hcall, hq, -⟩ := hst.pc_cases
      · intro hb
        rw [hb] at hr
        rw [← hr] at hloop
        exact absurd hloop (by decide)
      · rw [hq]
        rintro ⟨⟩
        exact (callee_caller hcall).2.2.2.2.2 rfl
  · obtain ⟨q, m, rfl, hcall, hchain'⟩ := hst.chainOk hrs hchain
    refine ⟨by rw [returnTo_pc, returnTo_rs]; exact hchain', by rw [returnTo_pc]; exact (callee_caller hcall).1,
      by rw [returnTo_pc]; nofun, ?_⟩
    rw [returnTo_flags, returnTo, afterCall_fb]
    cases hst with
    | packed fb hp => exact absurd (congrArg PC.routine hp) hpack
    | plain | life | reset | shown => exact ⟨hfb, hvalid⟩
  · cases hst with
    | packed fb hp => exact absurd (congrArg PC.routine hp) hpack
    | plain | life | reset | shown => exact ⟨hfb, hvalid⟩
  · cases hst with
    | size hp => exact absurd (congrArg PC.routine hp) hpack
    | exhausted => exact ⟨hfb, hvalid⟩

/-- A request line is in neither PACK nor DISPLAY. -/
theorem requestLines_noPack {b : Byte} {pc : PC} {r : Request} (h : (pc, r) ∈ requestLines b) :
    pc.routine ≠ .op .pack ∧ pc.routine ≠ .op .display := by
  have hpc : pc.routine ∈ (requestLines b).map (fun l => l.1.routine) := List.mem_map_of_mem h
  revert hpc
  generalize pc.routine = q
  simp only [requestLines, List.map_cons, List.map_nil]
  revert q
  decide

theorem step_noPack {s t : State} (hinv : Safety.Invariant s) (hact : s.flags.active = true) (hstep : step s = .next t) :
    t.fb = s.fb ∧ t.flags.fbValid = s.flags.fbValid := by
  obtain ⟨hseq, -⟩ := hinv
  obtain ⟨r, hl⟩ := seqInv_asks hseq hact
  obtain ⟨hset, -⟩ := settling_replied hseq hact hl (s.busyAt s.hist.length)
  cases hf : s.failsAt s.hist.length with
  | true =>
    rw [step_active s hact, sequencerStep_failed s r hl hf] at hstep
    cases hstep
    exact ⟨rfl, rfl⟩
  | false =>
    rw [step_replied hact hl hf] at hstep
    obtain ⟨hpack, hdisplay⟩ := requestLines_noPack (line_ask_mem hl)
    refine settle_noPack (s := s) ⟨hset.chain, by simpa using hpack, ?_, by simp, by simp⟩ hstep
    rw [replied_pc]
    intro hpc
    cases congrArg PC.step hpc

/-- An operation other than PACK and DISPLAY starts away from the packer. -/
theorem issue_noPack {op : HostOp} {s t : State} (hpack : op ≠ .pack) (hdisplay : op ≠ .display) (h : issue op s = .next t) :
    t.fb = s.fb ∧ t.flags.fbValid = s.flags.fbValid := by
  cases hact : s.flags.active with
  | true => rw [issue_overlapping op s hact] at h; cases h
  | false =>
    cases hacc : acceptance op s with
    | some c => rw [issue_rejected op s c hact hacc] at h; cases h; exact ⟨rfl, rfl⟩
    | none =>
      rw [issue_accepted op s hact hacc] at h
      refine settle_noPack (s := s) ⟨rfl, ?_, ?_, by simp, by simp⟩ h <;> rw [accept_pc] <;> rintro ⟨⟩
      · exact hpack rfl
      · exact hdisplay rfl

theorem transmit_noPack {k : PacketKind} {data : List Byte} {s t : State} (h : transmit k data s = .next t) :
    t.fb = s.fb ∧ t.flags.fbValid = s.flags.fbValid := by
  cases h
  have hsame := sendPacket_sameControl k data s
  revert hsame
  cases sendPacket k data s with
  | ok t => rintro ⟨-, -, hflags, -, -, -, hfb⟩; exact ⟨hfb, congrArg Flags.fbValid hflags⟩
  | failed q t => rintro ⟨-, -, hflags, -, -, -, hfb⟩; exact ⟨hfb, (congrArg Flags.fbValid hflags : t.flags.fbValid = _)⟩

theorem issueReserved_noPack {code : BitVec 4} {s t : State} (h : issueReserved code s = .next t) :
    t.fb = s.fb ∧ t.flags.fbValid = s.flags.fbValid := by
  unfold issueReserved at h
  split at h <;> cases h
  exact ⟨rfl, rfl⟩

/-- The host operation, reserved code or packet that an instruction is. -/
theorem instr_cases (i : Instr) :
    (∃ op : HostOp, i = op.instr) ∨ (∃ code, ∀ s, exec i s = issueReserved code s) ∨ ∃ p, i.packetParts = some p := by
  cases i
  case attach => exact .inl ⟨.attach, rfl⟩
  case init => exact .inl ⟨.init, rfl⟩
  case setWindow => exact .inl ⟨.setWindow, rfl⟩
  case setCursor => exact .inl ⟨.setCursor, rfl⟩
  case turnOnDisplay => exact .inl ⟨.turnOnDisplay, rfl⟩
  case writeFrame => exact .inl ⟨.writeFrame, rfl⟩
  case clear => exact .inl ⟨.clear, rfl⟩
  case pack => exact .inl ⟨.pack, rfl⟩
  case display => exact .inl ⟨.display, rfl⟩
  case powerDown => exact .inl ⟨.powerDown, rfl⟩
  case teardown => exact .inl ⟨.teardown, rfl⟩
  case reservedB | reservedC | reservedD | reservedE | reservedF => exact .inr (.inl ⟨_, fun _ => rfl⟩)
  all_goals exact .inr (.inr ⟨_, rfl⟩)

theorem exec_noPack {i : Instr} {s t : State} (hpack : i ≠ .pack) (hdisplay : i ≠ .display) (h : exec i s = .next t) :
    t.fb = s.fb ∧ t.flags.fbValid = s.flags.fbValid := by
  obtain ⟨op, rfl⟩ | ⟨code, he⟩ | ⟨⟨k, data⟩, hp⟩ := instr_cases i
  · rw [exec_hostOp] at h
    exact issue_noPack (fun e => hpack (congrArg HostOp.instr e)) (fun e => hdisplay (congrArg HostOp.instr e)) h
  · exact issueReserved_noPack (he s ▸ h)
  · exact transmit_noPack (exec_packet i k data s hp ▸ h)

end Sys2Proof.Machine

namespace Sys2Proof.Proofs

open Sys2Proof.Machine Sys2Proof.Safety

/-- Settles O17: no call chain but DISPLAY's first line leads into PACK. -/
theorem fbWrittenOnlyByPack : Obligations.FbWrittenOnlyByPack :=
  ⟨fun _ _ _ hpack hdisplay h => exec_noPack hpack hdisplay h, fun _ _ hinv hact h => step_noPack hinv hact h⟩

end Sys2Proof.Proofs

/-! ## Framing (R92, R137) -/

namespace Sys2Proof.Machine

open Sys2Proof.Safety

/-- A line outside every frame, with `CS` not asserted. -/
def calm (pc : PC) : Bool := decide (expectedFrame pc = .between) && !csAsserted pc

theorem calm_iff {pc : PC} : calm pc = true ↔ expectedFrame pc = .between ∧ csAsserted pc = false := by
  simp [calm]

theorem calm_first (r : Routine) : calm ⟨r, 0⟩ = true := by
  cases r with
  | op o => cases o <;> rfl
  | idle | sendCommand | sendData | waitIdle | resetSeq | loadLut => rfl

theorem calm_loop {r : Routine} (h : r ∈ loopRoutines) (n : Nat) : calm ⟨r, n⟩ = true := by
  simp only [loopRoutines, List.mem_cons, List.not_mem_nil, or_false] at h
  rcases h with rfl | rfl | rfl | rfl <;> rfl

/-- A call comes back to a line outside every frame. -/
theorem calm_callee {r q : Routine} {n : Nat} (h : callee r n = some q) : calm ⟨r, n + 1⟩ = true := by
  unfold callee at h
  split at h <;> cases h <;> decide

/-- A silent line leads to a line outside every frame. -/
theorem Silent.calm {s t : State} (h : Silent s t) : calm t.pc = true := by
  obtain ⟨hloop, hr, -⟩ | ⟨q, -, hq, -⟩ := h.pc_cases
  · exact calm_loop (hr ▸ hloop) t.pc.step
  · rw [hq]
    exact calm_first q

/-- The frames are whole and `CS` is not low. -/
def WholeFrames (s : State) : Prop := frameState s.hist = .between ∧ s.pins.cs ≠ .driven .low

theorem WholeFrames.of_sameTrace {s t : State} (h : WholeFrames s) (hst : SameTrace s t) : WholeFrames t := by
  obtain ⟨hhist, hpins, -⟩ := hst
  rwa [WholeFrames, hhist, hpins]

/-- Between two requests, outside every frame. -/
def BetweenFrames (s : State) : Prop := chainOk s.pc.routine s.rs = true ∧ calm s.pc = true ∧ WholeFrames s

theorem BetweenFrames.frameInv {s : State} (h : BetweenFrames s) : FrameInv s := by
  obtain ⟨-, hcalm, hframe, hcs⟩ := h
  obtain ⟨hexpected, hassert⟩ := calm_iff.mp hcalm
  refine ⟨?_, iff_of_false hcs (by simp [hassert])⟩
  split
  · rw [hframe, hexpected]
  · exact .inl hframe

theorem WholeFrames.frameInv_idle {s : State} (h : WholeFrames s) (hact : s.flags.active = false) : FrameInv s := by
  obtain ⟨hframe, hcs⟩ := h
  exact ⟨by rw [hact]; exact .inl hframe, iff_of_false hcs (by simp [hact])⟩

/-- From outside every frame the silent lines stay outside every frame. -/
theorem BetweenFrames.settle {n : Nat} {s u : State} (hs : BetweenFrames s) (h : settle n s = .next u) : FrameInv u := by
  refine settle_induct (Q := BetweenFrames) (R := FrameInv) (fun a b hQ hst => ?_) (fun a b f fs hQ _ hst hrs => ?_)
    (fun a hQ => hQ.frameInv) (fun a b hQ _ hst _ => ?_) (fun a b c hQ hst => ?_) hs h <;>
  obtain ⟨hchain, -, hwhole⟩ := hQ
  · exact ⟨hst.chainOk hchain, hst.calm, hwhole.of_sameTrace hst.sameTrace⟩
  · obtain ⟨q, m, rfl, hcall, hchain'⟩ := hst.chainOk hrs hchain
    refine ⟨by rw [returnTo_pc, returnTo_rs]; exact hchain', by rw [returnTo_pc]; exact calm_callee hcall, ?_⟩
    exact hwhole.of_sameTrace (hst.sameTrace.trans (returnTo_sameTrace _ fs b))
  · exact (hwhole.of_sameTrace (hst.sameTrace.trans (finish_sameTrace b))).frameInv_idle rfl
  · exact (hwhole.of_sameTrace (hst.sameTrace.trans (raise_sameTrace c _ b))).frameInv_idle rfl

/-! ### An answered request -/

/-- The lines inside a frame, and those of TEARDOWN after its write of `DC`, which all ask a request. -/
def innerLines : List PC :=
  [⟨.sendCommand, 1⟩, ⟨.sendCommand, 2⟩, ⟨.sendCommand, 3⟩, ⟨.sendData, 1⟩, ⟨.sendData, 2⟩, ⟨.sendData, 3⟩, ⟨.op .teardown, 2⟩,
    ⟨.op .teardown, 3⟩, ⟨.op .teardown, 4⟩, ⟨.op .teardown, 5⟩, ⟨.op .teardown, 6⟩]

theorem line_inner {s : State} (h : s.pc ∈ innerLines) : ∃ r, line s = .ask r := by
  simp only [innerLines, List.mem_cons, List.not_mem_nil, or_false] at h
  rcases h with h | h | h | h | h | h | h | h | h | h | h <;>
    simp [line, h, sendCommandLine, sendDataLine, teardownLine]

/-- The line of an answered request is followed by one inside a frame, one outside, or the end of TEARDOWN. -/
theorem requestLines_after {b : Byte} {pc : PC} {r : Request} (h : (pc, r) ∈ requestLines b) :
    ⟨pc.routine, pc.step + 1⟩ ∈ innerLines ∨ calm ⟨pc.routine, pc.step + 1⟩ = true ∧ pc ≠ ⟨.op .teardown, 6⟩ ∨
      pc = ⟨.op .teardown, 6⟩ := by
  simp only [requestLines, List.mem_cons, Prod.mk.injEq, List.not_mem_nil, or_false] at h
  rcases h with ⟨rfl, -⟩ | ⟨rfl, -⟩ | ⟨rfl, -⟩ | ⟨rfl, -⟩ | ⟨rfl, -⟩ | ⟨rfl, -⟩ | ⟨rfl, -⟩ | ⟨rfl, -⟩ | ⟨rfl, -⟩ | ⟨rfl, -⟩ |
    ⟨rfl, -⟩ | ⟨rfl, -⟩ | ⟨rfl, -⟩ | ⟨rfl, -⟩ | ⟨rfl, -⟩ | ⟨rfl, -⟩ | ⟨rfl, -⟩ | ⟨rfl, -⟩ | ⟨rfl, -⟩ | ⟨rfl, -⟩ | ⟨rfl, -⟩ |
    ⟨rfl, -⟩ | ⟨rfl, -⟩ | ⟨rfl, -⟩ | ⟨rfl, -⟩ | ⟨rfl, -⟩ | ⟨rfl, -⟩ | ⟨rfl, -⟩ | ⟨rfl, -⟩ <;> decide

/-- Where the last frame stands after the request at a line; TEARDOWN's last request leaves it where it was. -/
def frameAfter (pc : PC) : FrameState :=
  if pc = ⟨.op .teardown, 6⟩ then .dcWritten .low else expectedFrame ⟨pc.routine, pc.step + 1⟩

/-- The event of an answered request is the one the frame under way allows. -/
theorem frameNext_reply {b : Byte} {pc : PC} {r : Request} (h : (pc, r) ∈ requestLines b) (l : Level) :
    frameNext (expectedFrame pc) ⟨r, okReply r l⟩ = frameAfter pc := by
  simp only [requestLines, List.mem_cons, Prod.mk.injEq, List.not_mem_nil, or_false] at h
  rcases h with ⟨rfl, rfl⟩ | ⟨rfl, rfl⟩ | ⟨rfl, rfl⟩ | ⟨rfl, rfl⟩ | ⟨rfl, rfl⟩ | ⟨rfl, rfl⟩ | ⟨rfl, rfl⟩ | ⟨rfl, rfl⟩ |
    ⟨rfl, rfl⟩ | ⟨rfl, rfl⟩ | ⟨rfl, rfl⟩ | ⟨rfl, rfl⟩ | ⟨rfl, rfl⟩ | ⟨rfl, rfl⟩ | ⟨rfl, rfl⟩ | ⟨rfl, rfl⟩ | ⟨rfl, rfl⟩ |
    ⟨rfl, rfl⟩ | ⟨rfl, rfl⟩ | ⟨rfl, rfl⟩ | ⟨rfl, rfl⟩ | ⟨rfl, rfl⟩ | ⟨rfl, rfl⟩ | ⟨rfl, rfl⟩ | ⟨rfl, rfl⟩ | ⟨rfl, rfl⟩ |
    ⟨rfl, rfl⟩ | ⟨rfl, rfl⟩ | ⟨rfl, rfl⟩ <;> rfl

/-- The `CS` latch after an answered request is low exactly if the next line stands inside a frame. -/
theorem cs_reply {s : State} {r : Request} (h : (s.pc, r) ∈ requestLines s.tmp.tByte) (l : Level)
    (hcs : s.pins.cs = .driven .low ↔ csAsserted s.pc = true) :
    (requestEffect r l s).pins.cs = .driven .low ↔ csAsserted ⟨s.pc.routine, s.pc.step + 1⟩ = true := by
  revert hcs h
  generalize s.pc = pc
  intro h hcs
  simp only [requestLines, List.mem_cons, Prod.mk.injEq, List.not_mem_nil, or_false] at h
  rcases h with ⟨rfl, rfl⟩ | ⟨rfl, rfl⟩ | ⟨rfl, rfl⟩ | ⟨rfl, rfl⟩ | ⟨rfl, rfl⟩ | ⟨rfl, rfl⟩ | ⟨rfl, rfl⟩ | ⟨rfl, rfl⟩ |
    ⟨rfl, rfl⟩ | ⟨rfl, rfl⟩ | ⟨rfl, rfl⟩ | ⟨rfl, rfl⟩ | ⟨rfl, rfl⟩ | ⟨rfl, rfl⟩ | ⟨rfl, rfl⟩ | ⟨rfl, rfl⟩ | ⟨rfl, rfl⟩ |
    ⟨rfl, rfl⟩ | ⟨rfl, rfl⟩ | ⟨rfl, rfl⟩ | ⟨rfl, rfl⟩ | ⟨rfl, rfl⟩ | ⟨rfl, rfl⟩ | ⟨rfl, rfl⟩ | ⟨rfl, rfl⟩ | ⟨rfl, rfl⟩ |
    ⟨rfl, rfl⟩ | ⟨rfl, rfl⟩ | ⟨rfl, rfl⟩ <;>
  first | exact hcs | simp [requestEffect, Pins.drive, Pins.release, csAsserted]

theorem frameState_snoc (hist : List Event) (e : Event) : frameState (hist ++ [e]) = frameNext (frameState hist) e := by
  simp [frameState]

theorem frameState_replied {s : State} {r : Request} (hl : line s = .ask r) (hframe : frameState s.hist = expectedFrame s.pc)
    (l : Level) : frameState (s.replied r l).hist = frameAfter s.pc := by
  rw [replied_hist, frameState_snoc, hframe]
  exact frameNext_reply (line_ask_mem hl) l

/-- TEARDOWN is called by no routine. -/
theorem rs_of_teardown {s : State} (hchain : chainOk s.pc.routine s.rs = true) (hpc : s.pc.routine = .op .teardown) : s.rs = [] := by
  cases hrs : s.rs with
  | nil => rfl
  | cons f fs =>
    rw [hrs, hpc] at hchain
    obtain ⟨q, n, -, hcall, -⟩ := chainOk_cons hchain
    have hdepth := callDepth_callee hcall
    cases hdepth

theorem step_active_framing {s t : State} (hinv : Safety.Invariant s) (hframe : FrameInv s) (hact : s.flags.active = true)
    (hf : s.failsAt s.hist.length = false) (hstep : step s = .next t) : FrameInv t := by
  obtain ⟨hseq, -⟩ := hinv
  obtain ⟨hexpected, hcs⟩ := hframe
  rw [if_pos hact] at hexpected
  obtain ⟨r, hl⟩ := seqInv_asks hseq hact
  rw [step_replied hact hl hf] at hstep
  generalize s.busyAt s.hist.length = l at hstep
  obtain ⟨hset, -⟩ := settling_replied hseq hact hl l
  have hframe' := frameState_replied hl hexpected l
  have hcs' : (s.replied r l).pins.cs = .driven .low ↔ csAsserted ⟨s.pc.routine, s.pc.step + 1⟩ = true := by
    rw [replied_pins]
    exact cs_reply (line_ask_mem hl) l (by simpa [hact] using hcs)
  obtain hinner | ⟨hcalm, hpc⟩ | hpc := requestLines_after (line_ask_mem hl)
  · obtain ⟨r', hl'⟩ := line_inner (s := s.replied r l) (by rw [replied_pc]; exact hinner)
    cases (settle_ask 15 _ r' hl').symm.trans hstep
    have hpc : s.pc ≠ ⟨.op .teardown, 6⟩ := by
      intro hpc
      rw [hpc] at hinner
      exact absurd hinner (by decide)
    refine ⟨?_, by rw [hcs', replied_pc, hset.active]; simp⟩
    rw [if_pos hset.active, hframe', frameAfter, if_neg hpc, replied_pc]
  · obtain ⟨hbetween, hassert⟩ := calm_iff.mp hcalm
    refine BetweenFrames.settle ⟨hset.chain, by rw [replied_pc]; exact hcalm, ?_, ?_⟩ hstep
    · rw [hframe', frameAfter, if_neg hpc, hbetween]
    · rw [Ne, hcs', hassert]
      exact Bool.false_ne_true
  · have hpc' : (s.replied r l).pc = ⟨.op .teardown, 7⟩ := by rw [replied_pc, hpc]
    have hrs : (s.replied r l).rs = [] := rs_of_teardown hset.chain (by rw [hpc'])
    have hret : line (s.replied r l) = .ret ((s.replied r l).setLife .released) := by simp only [line, hpc', teardownLine]
    cases (settle_ret_nil 15 _ _ hret hrs).symm.trans hstep
    refine ⟨.inr ⟨rfl, hframe'.trans (by rw [frameAfter, if_pos hpc])⟩, iff_of_false ?_ nofun⟩
    rw [hpc] at hcs'
    exact mt hcs'.mp nofun

/-! ### An act of the host -/

/-- The idle part of `FrameInv` depends on these parts only. -/
theorem frameInv_of_idle {s t : State} (h : FrameInv s) (hact : s.flags.active = false) (hact' : t.flags.active = false)
    (hhist : t.hist = s.hist) (hpins : t.pins = s.pins) (hlife : t.life = s.life) : FrameInv t := by
  obtain ⟨hframe, hcs⟩ := h
  exact ⟨by simpa [hact, hact', hhist, hlife] using hframe, by simpa [hact, hact', hpins] using hcs⟩

/-- After release only PACK is accepted (R22). -/
theorem pack_of_released {op : HostOp} {s : State} (hlife : s.life = .released) (hacc : acceptance op s = none) : op = .pack := by
  cases op <;> simp_all [acceptance, verdict]

theorem pack_framing {s u : State} (h : FrameInv s) (hact : s.flags.active = false) (hu : exec .pack s = .next u) : FrameInv u := by
  cases hp : packImage s.cfg.portraitClearOnNonblack s.args.imgW s.args.imgH s.img with
  | some fb =>
    cases (exec_pack_some hact hp).symm.trans hu
    exact frameInv_of_idle h hact rfl (by simp [State.packed]) (by simp [State.packed]) (by simp [State.packed])
  | none =>
    cases (exec_pack_none hact hp).symm.trans hu
    exact frameInv_of_idle h hact rfl (by simp [State.filled]) (by simp [State.filled]) (by simp [State.filled, lifeAfter])

theorem issue_framing {op : HostOp} {s u : State} (h : FrameInv s) (hact : s.flags.active = false) (hu : issue op s = .next u) :
    FrameInv u := by
  cases hacc : acceptance op s with
  | some c =>
    rw [issue_rejected op s c hact hacc] at hu
    cases hu
    have hc := acceptance_mem hacc
    simp only [List.mem_cons, List.not_mem_nil, or_false] at hc
    refine frameInv_of_idle h hact rfl (by simp) (by simp) ?_
    rcases hc with rfl | rfl | rfl <;> rfl
  | none =>
    obtain ⟨hframe, hcs⟩ := id h
    rw [hact] at hframe
    obtain hbetween | ⟨hlife, -⟩ := hframe
    · rw [issue_accepted op s hact hacc] at hu
      refine BetweenFrames.settle ⟨rfl, by rw [accept_pc]; exact calm_first _, ?_⟩ hu
      exact WholeFrames.of_sameTrace ⟨hbetween, by simp [hcs, hact]⟩ (accept_sameTrace op s)
    · cases pack_of_released hlife hacc
      exact pack_framing h hact (by rw [show Instr.pack = HostOp.pack.instr from rfl, exec_hostOp]; exact hu)

theorem decodeHost_packetParts (w : BitVec 4) : (decodeHost w).packetParts = none := by revert w; decide

theorem exec_host_framing {s u : State} {w : BitVec 4} (h : FrameInv s) (hact : s.flags.active = false)
    (hu : exec (decodeHost w) s = .next u) : FrameInv u := by
  obtain ⟨op, hop⟩ | ⟨code, he⟩ | ⟨p, hp⟩ := instr_cases (decodeHost w)
  · rw [hop, exec_hostOp] at hu
    exact issue_framing h hact hu
  · rw [he s, issueReserved, hact] at hu
    cases hu
    exact frameInv_of_idle h hact rfl (raise_sameTrace _ _ s).1 (raise_sameTrace _ _ s).2.1 rfl
  · rw [decodeHost_packetParts] at hp
    cases hp

/-- The inbox after a step: the acts not yet taken. -/
theorem step_inbox {s t : State} (hstep : step s = .next t) : t.inbox = s.inbox ∨ t.inbox = s.inbox.tail := by
  have hfetch := fetch_state s
  obtain ⟨-, hu⟩ | ⟨-, -, rfl⟩ | ⟨-, reg, v, a, hf, hu⟩ | ⟨-, img, a, hf, rfl⟩ | ⟨-, c, a, i, hf, -, hu⟩ := step_cases s t hstep
  · obtain ⟨-, -, -, -, hinbox⟩ := sequencerStep_sameInputs hu
    exact .inl hinbox
  · exact .inl rfl
  · rw [hf] at hfetch
    cases hfetch
    rw [hostWrite_next hu]
    exact .inr rfl
  · rw [hf] at hfetch
    cases hfetch
    exact .inr rfl
  · rw [hf] at hfetch
    cases hfetch
    obtain ⟨-, -, -, -, hinbox⟩ := exec_sameInputs hu
    exact .inr hinbox

theorem hostOnly_of_inbox {s t : State} (h : hostOnly s = true) (ht : t.inbox = s.inbox ∨ t.inbox = s.inbox.tail) :
    hostOnly t = true := by
  unfold hostOnly at h ⊢
  rcases ht with ht | ht
  · rwa [ht]
  · rw [ht, List.all_eq_true] at *
    exact fun p hp => h p (List.mem_of_mem_tail hp)

/-- The code that a host can give is a host operation word (R98). -/
theorem fetch_hostOnly {s t : State} {c : Code} (h : hostOnly s = true) (hf : fetch s = .code c t) : ∃ w, c = .host w := by
  unfold fetch at hf
  split at hf
  case h_5 bytes rest hi => simp [hostOnly, hi] at h
  case h_2 => cases hf; exact ⟨_, rfl⟩
  all_goals cases hf

theorem step_idle_framing {s t : State} (h : FrameInv s) (hact : s.flags.active = false) (hhost : hostOnly s = true)
    (hstep : step s = .next t) : FrameInv t := by
  have hfetch := fetch_state s
  have htail : FrameInv (s.setInbox s.inbox.tail) := frameInv_of_idle h hact hact rfl rfl rfl
  obtain ⟨hact', -⟩ | ⟨-, -, rfl⟩ | ⟨-, reg, v, a, hf, hu⟩ | ⟨-, img, a, hf, rfl⟩ | ⟨-, c, a, i, hf, hd, hu⟩ := step_cases s t hstep
  · rw [hact] at hact'
    cases hact'
  · exact h
  · rw [hf] at hfetch
    cases hfetch
    rw [hostWrite_next hu]
    exact htail
  · rw [hf] at hfetch
    cases hfetch
    exact htail
  · obtain ⟨w, rfl⟩ := fetch_hostOnly hhost hf
    rw [hf] at hfetch
    cases hfetch
    cases hd
    exact exec_host_framing htail hact hu

end Sys2Proof.Machine

namespace Sys2Proof.Proofs

open Sys2Proof.Machine Sys2Proof.Safety

/-- Settles O9: an answered request is the one its frame allows; the silent lines between two frames make none. -/
theorem stepKeepsFraming : Obligations.StepKeepsFraming := by
  intro s t hinv hframe hf hhost hstep
  refine ⟨?_, hostOnly_of_inbox hhost (step_inbox hstep)⟩
  cases hact : s.flags.active with
  | true => exact step_active_framing hinv hframe hact hf hstep
  | false => exact step_idle_framing hframe hact hhost hstep

end Sys2Proof.Proofs

/-! ## The glass (R72, R180) -/

namespace Sys2Proof.Machine

open Sys2Proof.Safety

/-- The glass of `t` shows what that of `s` does, or nothing known. -/
def GlassKept (s t : State) : Prop := t.panel.shown = s.panel.shown ∨ t.panel.shown = []

theorem GlassKept.of_shown {s t u : State} (h : GlassKept s t) (hu : u.panel.shown = t.panel.shown) : GlassKept s u := by
  rwa [GlassKept, hu]

theorem Panel.begin_shown (p : Panel) (k : PacketKind) (w : Shadow) (hk : k ≠ .masterActivation) :
    (p.begin k w).shown = p.shown := by
  cases k <;> simp only [Panel.begin, Panel.enter, Panel.meet_shown]
  case masterActivation => exact absurd rfl hk
  case writeRam => split <;> rfl

/-- Beginning a packet keeps the glass, or makes it unknown. -/
theorem GlassKept.begin {s t u : State} {k : PacketKind} (h : GlassKept s t) (hu : u.panel = t.panel.begin k t.shadow) :
    GlassKept s u := by
  by_cases hk : k = .masterActivation
  · exact .inr (by rw [hu, hk]; rfl)
  · exact h.of_shown (by rw [hu, Panel.begin_shown _ _ _ hk])

theorem GlassKept.raise {s t : State} (c : Cause) (code : Option (BitVec 4)) (h : GlassKept s t) : GlassKept s (raise c code t) := by
  rcases panelAfter_cases c (rowsSent t) t.panel with e | e | e
  · exact h.of_shown (congrArg Panel.shown e)
  · exact .inr (congrArg Panel.shown e)
  · exact .inr (congrArg Panel.shown e)

theorem afterCall_shown (r : Routine) (n : Nat) (s : State) : (afterCall r n s).panel.shown = s.panel.shown := by
  unfold afterCall initAfter setWindowAfter setCursorAfter turnOnDisplayAfter frameLoopAfter loadLutAfter
  split <;> try split
  all_goals simp [noteWindow, noteCursorX, noteCursor, Panel.cursorXSent]

theorem returnTo_shown (f : PC) (fs : List PC) (s : State) : (returnTo f fs s).panel.shown = s.panel.shown := afterCall_shown _ _ _

theorem replied_shown (s : State) (r : Request) (l : Level) : (s.replied r l).panel.shown = s.panel.shown := by
  unfold State.replied answered
  split <;> simp [frameReceived, countPoll, heldInReset, Panel.forgetRam]

/-! ### The silent lines -/

/-- Between two requests, away from the end of a wait and of a refresh. -/
def AwayFromRefresh (s t : State) : Prop :=
  chainOk t.pc.routine t.rs = true ∧ t.pc ≠ ⟨.waitIdle, 2⟩ ∧ t.pc ≠ ⟨.op .turnOnDisplay, 5⟩ ∧ GlassKept s t

/-- Within WAIT_IDLE silent lines lead to the test line from the poll only. -/
theorem rank_test {n : Nat} (h : rank ⟨.waitIdle, 2⟩ < rank ⟨.waitIdle, n⟩) : False := by
  have hn : rank ⟨.waitIdle, n⟩ ≤ 4 := by
    simp only [rank]
    split
    · decide
    · split <;> decide
  exact absurd h (Nat.not_lt.mpr hn)

theorem Silent.away {s t u : State} (hst : Silent t u) (h : AwayFromRefresh s t) : AwayFromRefresh s u := by
  obtain ⟨hchain, hwait, hrefresh, hglass⟩ := h
  refine ⟨hst.chainOk hchain, ?_, ?_, ?_⟩
  · intro hu
    obtain ⟨-, hr, -, hrank⟩ | ⟨q, -, hq, -⟩ := hst.pc_cases
    · have ht : t.pc = ⟨.waitIdle, t.pc.step⟩ := by rw [hu] at hr; exact congrArg (PC.mk · t.pc.step) hr.symm
      rw [hu, ht] at hrank
      exact rank_test hrank
    · cases hq.symm.trans hu
  · intro hu
    obtain ⟨hloop, hr, -⟩ | ⟨q, -, hq, -⟩ := hst.pc_cases
    · rw [← hr, hu] at hloop
      exact absurd hloop (by decide)
    · cases hq.symm.trans hu
  · cases hst with
    | command k => exact hglass.begin rfl
    | move | data | call => exact hglass

theorem Returns.away {s t u : State} {f : PC} {fs : List PC} (hst : Returns t u) (hpc : t.pc ∈ returnLines) (hrs : u.rs = f :: fs)
    (h : AwayFromRefresh s t) : AwayFromRefresh s (returnTo f fs u) := by
  obtain ⟨hchain, hwait, hrefresh, hglass⟩ := h
  obtain ⟨q, m, rfl, hcall, hchain'⟩ := hst.chainOk hrs hchain
  refine ⟨by rw [returnTo_pc, returnTo_rs]; exact hchain', ?_, ?_, ?_⟩ <;> try rw [returnTo_pc]
  · exact fun e => (callee_caller hcall).2.1 (congrArg PC.routine e)
  · intro e
    cases e
    have hr : Routine.waitIdle = t.pc.routine := Option.some.inj hcall
    revert hpc hwait hr
    generalize t.pc = pc
    revert pc
    decide
  · refine GlassKept.of_shown ?_ (returnTo_shown _ fs u)
    cases hst with
    | shown hp => exact absurd hp hrefresh
    | plain | life | reset | packed => exact hglass

/-- Away from the end of a wait the sequencer makes the glass show nothing. -/
theorem AwayFromRefresh.settle {n : Nat} {s t u : State} (ht : AwayFromRefresh s t) (h : settle n t = .next u) : GlassKept s u := by
  refine settle_induct (Q := AwayFromRefresh s) (R := GlassKept s) (fun a b hQ hst => hst.away hQ)
    (fun a b f fs hQ hpc hst hrs => hst.away hpc hrs hQ) (fun a hQ => hQ.2.2.2) (fun a b hQ _ hst _ => ?_)
    (fun a b c hQ hst => ?_) ht h <;> obtain ⟨-, -, hrefresh, hglass⟩ := hQ
  · refine GlassKept.of_shown ?_ (finish_panel_shown b)
    cases hst with
    | shown hp => exact absurd hp hrefresh
    | plain | life | reset | packed => exact hglass
  · refine GlassKept.raise c _ ?_
    cases hst <;> exact hglass
where
  finish_panel_shown (b : State) : b.finish.panel.shown = b.panel.shown := rfl

/-! ### The end of a wait -/

/-- The lines by which the callers of TURN_ON_DISPLAY end. -/
def closingLines : List PC := [⟨.op .writeFrame, 10⟩, ⟨.op .clear, 10⟩, ⟨.op .display, 2⟩]

theorem closing_callee {r q : Routine} {n : Nat} (h : callee r n = some q)
    (hq : q ∈ [Routine.op .turnOnDisplay, .op .writeFrame, .op .clear, .op .display]) : ⟨r, n + 1⟩ ∈ closingLines := by
  unfold callee at h
  split at h <;> cases h <;> revert hq <;> decide

theorem line_closing {s : State} (h : s.pc ∈ closingLines) : line s = .ret s := by
  simp only [closingLines, List.mem_cons, List.not_mem_nil, or_false] at h
  rcases h with h | h | h <;> simp [line, h, writeFrameLine, clearLine, frameLoopLine, displayLine]

theorem returnTo_closing {f : PC} (h : f ∈ closingLines) (fs : List PC) (s : State) : returnTo f fs s = (s.setRs fs).setPc f := by
  refine returnTo_afterWait ?_ fs s
  revert f
  decide

theorem settle_closing {n : Nat} {s u : State} (hpc : s.pc ∈ closingLines) (hchain : chainOk s.pc.routine s.rs = true)
    (h : settle n s = .next u) : u.panel = s.panel ∧ u.life = s.life := by
  induction n generalizing s with
  | zero => cases h; exact ⟨rfl, rfl⟩
  | succ n ih =>
    cases hrs : s.rs with
    | nil => rw [settle_ret_nil n s s (line_closing hpc) hrs] at h; cases h; exact ⟨rfl, rfl⟩
    | cons f fs =>
      rw [hrs] at hchain
      obtain ⟨q, m, rfl, hcall, hchain'⟩ := chainOk_cons hchain
      have hmem : ⟨q, m + 1⟩ ∈ closingLines := closing_callee hcall (by revert hpc; generalize s.pc = pc; revert pc; decide)
      rw [settle_ret_cons n s s _ fs (line_closing hpc) hrs, returnTo_closing hmem] at h
      exact ih (s := (s.setRs fs).setPc ⟨q, m + 1⟩) hmem hchain' h

/-- The end of TURN_ON_DISPLAY shows panel RAM in `Ready`, and so do the ends of its callers. -/
theorem settle_refreshed {n : Nat} {s u : State} (hpc : s.pc = ⟨.op .turnOnDisplay, 5⟩)
    (hchain : chainOk (.op .turnOnDisplay) s.rs = true) (h : settle (n + 1) s = .next u) :
    u.life = .ready ∧ u.panel.shown = s.panel.ram := by
  have hl : line s = .ret (showRam (s.setLife .ready)) := by simp [line, hpc, turnOnDisplayLine]
  cases hrs : s.rs with
  | nil => rw [settle_ret_nil n s _ hl hrs] at h; cases h; exact ⟨rfl, rfl⟩
  | cons f fs =>
    rw [hrs] at hchain
    obtain ⟨q, m, rfl, hcall, hchain'⟩ := chainOk_cons hchain
    have hmem : ⟨q, m + 1⟩ ∈ closingLines := closing_callee hcall (by decide)
    rw [settle_ret_cons n s _ _ fs hl hrs, returnTo_closing hmem] at h
    obtain ⟨hpanel, hlife⟩ := settle_closing (s := ((showRam (s.setLife .ready)).setRs fs).setPc ⟨q, m + 1⟩) hmem hchain' h
    exact ⟨hlife, by rw [hpanel]; rfl⟩

/-- A poll that reads `LOW` returns to the caller of the wait. -/
theorem step_pollLow_returns {s : State} {f : PC} {fs : List PC} (hact : s.flags.active = true)
    (hf : s.failsAt s.hist.length = false) (hpc : s.pc = ⟨.waitIdle, 1⟩) (hlow : s.busyAt s.hist.length = .low)
    (hrs : s.rs = f :: fs) (hmem : f ∈ afterWaitLines) : step s = settle 15 ((s.polled.setRs fs).setPc f) := by
  have htest : line s.polled = .ret s.polled := line_testLow (State.polled_pc hpc) (by simp [hlow, Level.toBool])
  exact (step_poll hact hf hpc).trans
    ((settle_ret_cons 15 _ _ f fs htest hrs).trans (congrArg (settle 15) (returnTo_afterWait hmem fs _)))

theorem callee_waitIdle {r : Routine} {n : Nat} (h : callee r n = some .waitIdle) :
    (⟨r, n + 1⟩ : PC) = ⟨.op .setCursor, 6⟩ ∨ (⟨r, n + 1⟩ : PC) = ⟨.op .turnOnDisplay, 5⟩ := by
  unfold callee at h
  split at h <;> cases h <;> decide

/-- What the glass shows after a step: what it did, nothing known, or, at the end of TURN_ON_DISPLAY's wait, panel RAM. -/
def GlassStep (s t : State) : Prop :=
  t.panel.shown = s.panel.shown ∨ t.panel.shown = [] ∨
    (s.flags.active = true ∧ s.pc = ⟨.waitIdle, 1⟩ ∧ s.rs.head? = some ⟨.op .turnOnDisplay, 5⟩ ∧
      s.failsAt s.hist.length = false ∧ s.busyAt s.hist.length = .low ∧ t.life = .ready ∧ t.panel.shown = s.panel.ram)

theorem GlassKept.step {s t : State} (h : GlassKept s t) : GlassStep s t := h.imp_right .inl

/-- The answered poll of a wait. -/
theorem step_poll_glass {s t : State} (hact : s.flags.active = true) (hf : s.failsAt s.hist.length = false)
    (hpc : s.pc = ⟨.waitIdle, 1⟩) (hchain : chainOk .waitIdle s.rs = true) (hstep : step s = .next t) : GlassStep s t := by
  cases hbusy : s.busyAt s.hist.length with
  | high =>
    cases hpolls : pollsExhausted s with
    | false =>
      cases (step_pollHigh_waits hact hf hpc hbusy hpolls).symm.trans hstep
      exact .inl rfl
    | true =>
      cases (step_pollHigh_exhausted hact hf hpc hbusy hpolls).symm.trans hstep
      exact .inr (.inl rfl)
  | low =>
    cases hrs : s.rs with
    | nil => rw [hrs] at hchain; cases hchain
    | cons f fs =>
      rw [hrs] at hchain
      obtain ⟨hmem, hchain'⟩ := afterWait_of_chainOk (by decide) hchain
      obtain ⟨q, m, rfl, hcall, -⟩ := chainOk_cons hchain
      rw [step_pollLow_returns hact hf hpc hbusy hrs hmem] at hstep
      obtain hcaller | hcaller := callee_waitIdle hcall <;> rw [hcaller] at hstep hchain'
      · exact (AwayFromRefresh.settle (s := s) (t := (s.polled.setRs fs).setPc ⟨.op .setCursor, 6⟩)
          ⟨hchain', by simp, by simp, .inl rfl⟩ hstep).step
      · obtain ⟨hlife, hshown⟩ := settle_refreshed (s := (s.polled.setRs fs).setPc ⟨.op .turnOnDisplay, 5⟩) rfl hchain' hstep
        exact .inr (.inr ⟨hact, hpc, by rw [hrs, hcaller]; rfl, hf, hbusy, hlife, hshown⟩)

/-- No request line is followed by the end of TURN_ON_DISPLAY, and only the poll by the test of the sample. -/
theorem requestLines_away {b : Byte} {pc : PC} {r : Request} (h : (pc, r) ∈ requestLines b) (hpoll : pc ≠ ⟨.waitIdle, 1⟩) :
    (⟨pc.routine, pc.step + 1⟩ : PC) ≠ ⟨.waitIdle, 2⟩ ∧ (⟨pc.routine, pc.step + 1⟩ : PC) ≠ ⟨.op .turnOnDisplay, 5⟩ := by
  have hpc : pc ∈ (requestLines b).map Prod.fst := List.mem_map_of_mem h
  clear h
  simp only [requestLines, List.map_cons, List.map_nil] at hpc
  revert hpoll
  revert pc
  decide

theorem step_active_glass {s t : State} (hinv : Safety.Invariant s) (hact : s.flags.active = true) (hstep : step s = .next t) :
    GlassStep s t := by
  obtain ⟨hseq, -⟩ := hinv
  obtain ⟨r, hl⟩ := seqInv_asks hseq hact
  obtain ⟨hset, -⟩ := settling_replied hseq hact hl (s.busyAt s.hist.length)
  have hchain : chainOk s.pc.routine s.rs = true := by simpa using hset.chain
  cases hf : s.failsAt s.hist.length with
  | true =>
    rw [step_active s hact, sequencerStep_failed s r hl hf] at hstep
    cases hstep
    exact (GlassKept.raise (s := s) _ _ (.inl rfl)).step
  | false =>
    by_cases hpoll : s.pc = ⟨.waitIdle, 1⟩
    · exact step_poll_glass hact hf hpoll (by rwa [hpoll] at hchain) hstep
    · obtain ⟨hwait, hrefresh⟩ := requestLines_away (line_ask_mem hl) hpoll
      rw [step_replied hact hl hf] at hstep
      exact (AwayFromRefresh.settle (s := s) ⟨hset.chain, by rwa [replied_pc], by rwa [replied_pc], .inl (replied_shown _ _ _)⟩ hstep).step

/-! ### An act of the host -/

theorem sendPacket_glass (k : PacketKind) (data : List Byte) (s : State) : GlassKept s (sendPacket k data s).state := by
  refine sendPacket_keeps (P := GlassKept s) (fun r t _ ht => ?_) (fun _ _ ht => ht)
    (fun t ht => ht.of_shown (by simp [frameReceived])) (fun k sent t ht => ?_) k data s
    (GlassKept.begin (t := s) (.inl rfl) rfl)
  · obtain ⟨-, he⟩ | ⟨-, he⟩ := ask_cases r t <;> rw [he]
    · exact ht.of_shown (by simp)
    · exact ht
  · unfold recordShadow
    split
    all_goals first | exact ht | exact ht.of_shown (by simp [noteWindow, noteCursor])

theorem transmitted_glass (k : PacketKind) (data : List Byte) (s : State) : GlassKept s (transmitted (sendPacket k data s)) := by
  have h := sendPacket_glass k data s
  revert h
  cases sendPacket k data s with
  | ok t => exact id
  | failed q t => exact GlassKept.raise _ _

theorem exec_glass {i : Instr} {s t : State} (h : exec i s = .next t) : GlassKept s t := by
  obtain ⟨op, rfl⟩ | ⟨code, he⟩ | ⟨⟨k, data⟩, hp⟩ := instr_cases i
  · rw [exec_hostOp] at h
    cases hact : s.flags.active with
    | true => rw [issue_overlapping op s hact] at h; cases h
    | false =>
      cases hacc : acceptance op s with
      | some c => rw [issue_rejected op s c hact hacc] at h; cases h; exact .raise _ _ (.inl rfl)
      | none =>
        rw [issue_accepted op s hact hacc] at h
        exact AwayFromRefresh.settle ⟨rfl, by rw [accept_pc]; nofun, by rw [accept_pc]; nofun, .inl (by simp)⟩ h
  · rw [he s, issueReserved] at h
    split at h <;> cases h
    exact .raise _ _ (.inl rfl)
  · rw [exec_packet i k data s hp] at h
    cases h
    exact transmitted_glass k data s

theorem step_idle_glass {s t : State} (hact : s.flags.active = false) (hstep : step s = .next t) : GlassKept s t := by
  have hfetch := fetch_state s
  obtain ⟨hact', -⟩ | ⟨-, -, rfl⟩ | ⟨-, reg, v, a, hf, hu⟩ | ⟨-, img, a, hf, rfl⟩ | ⟨-, c, a, i, hf, -, hu⟩ := step_cases s t hstep
  · rw [hact] at hact'
    cases hact'
  · exact .inl rfl
  · rw [hf] at hfetch
    cases hfetch
    rw [hostWrite_next hu]
    exact .inl rfl
  · rw [hf] at hfetch
    cases hfetch
    exact .inl rfl
  · rw [hf] at hfetch
    cases hfetch
    exact (exec_glass hu : GlassKept (s.setInbox s.inbox.tail) t)

end Sys2Proof.Machine

namespace Sys2Proof.Proofs

open Sys2Proof.Machine Sys2Proof.Safety

/-- Settles O20: only TURN_ON_DISPLAY's last line shows panel RAM, and the only way to it is the `LOW` poll of its wait. -/
theorem glassChangesOnlyByRefresh : Obligations.GlassChangesOnlyByRefresh := by
  intro s t hinv hstep
  cases hact : s.flags.active with
  | true => simpa only [GlassStep, hact] using step_active_glass hinv hact hstep
  | false => exact (step_idle_glass hact hstep).imp_right .inl

end Sys2Proof.Proofs

/-! ## What an error leaves of a WRITE_FRAME (R182, R272) -/

namespace Sys2Proof.Machine

open Sys2Proof.Safety

/-- A call chain holds at most one return address of WRITE_FRAME. -/
theorem find_writeFrame {r : Routine} {n : Nat} {fs : List PC} (hchain : chainOk r fs = true) (h : ⟨.op .writeFrame, n⟩ ∈ fs) :
    fs.find? (fun f => decide (f.routine = .op .writeFrame)) = some ⟨.op .writeFrame, n⟩ := by
  induction fs generalizing r with
  | nil => cases h
  | cons f fs ih =>
    obtain ⟨q, m, rfl, -, hchain'⟩ := chainOk_cons hchain
    rcases List.mem_cons.mp h with hhead | htail
    · rw [← hhead, List.find?_cons_of_pos (by simp)]
    · have hq : q ≠ .op .writeFrame := by
        rintro rfl
        have hdepth := callDepth_of_mem hchain' htail
        exact Nat.lt_irrefl _ hdepth
      rw [List.find?_cons_of_neg (by simpa using hq)]
      exact ih hchain' htail

theorem rowsSent_of_mem {r : Routine} {n : Nat} {s : State} (hchain : chainOk r s.rs = true) (h : ⟨.op .writeFrame, n⟩ ∈ s.rs) :
    rowsSent s = if n ≤ 1 then 0 else s.cnt.j := by
  rw [rowsSent, find_writeFrame hchain h]

theorem rowsSent_congr {s t : State} (hrs : t.rs = s.rs) (hj : t.cnt.j = s.cnt.j) : rowsSent t = rowsSent s := by
  simp only [rowsSent, hrs, hj]

/-- The error of a failed request, or of the poll that uses up the limit. -/
theorem step_error {s t : State} {r : Request} (hact : s.flags.active = true) (hl : line s = .ask r) (hstep : step s = .next t)
    (herr : s.failsAt s.hist.length = true ∨
      (s.pc = ⟨.waitIdle, 1⟩ ∧ s.busyAt s.hist.length = .high ∧ pollsExhausted s = true)) :
    t.panel = s.panel.failed (rowsSent s) := by
  cases hf : s.failsAt s.hist.length with
  | true =>
    rw [step_active s hact, sequencerStep_failed s r hl hf] at hstep
    cases hstep
    exact congrArg s.panel.failed (rowsSent_congr (s := s) (t := s.record r .fail) rfl rfl)
  | false =>
    obtain hf' | ⟨hpc, hbusy, hpolls⟩ := herr
    · rw [hf] at hf'
      cases hf'
    · cases (step_pollHigh_exhausted hact hf hpc hbusy hpolls).symm.trans hstep
      exact congrArg s.panel.failed (rowsSent_congr (s := s) (t := s.polled.advance) rfl rfl)

end Sys2Proof.Machine

namespace Sys2Proof.Proofs

open Sys2Proof.Machine Sys2Proof.Safety

/-- Settles O45: the error reads the number of rows from the one return address of WRITE_FRAME in the call chain. -/
theorem failureKeepsRowsSent : Obligations.FailureKeepsRowsSent := by
  intro s t r n hinv hact hmem hl hstep herr
  obtain ⟨hseq, -⟩ := hinv
  simp only [seqInv, hact, if_true] at hseq
  obtain ⟨-, hchain, -⟩ := hseq
  have hpanel := step_error hact hl hstep herr
  rw [rowsSent_of_mem hchain hmem] at hpanel
  rw [hpanel]
  refine ⟨fun x y hx => ?_, rfl, rfl⟩
  rw [Panel.failed_leftAt _ _ _ _ hx]
  by_cases hn : n ≤ 1
  · simp [hn, show ¬ 2 ≤ n by omega]
  · simp [hn, show 2 ≤ n by omega]

end Sys2Proof.Proofs

/-! ## The packets of the port (R92 to R94, R131, R243) -/

namespace Sys2Proof.Machine

open Sys2Proof.Safety

/-! ### Requests that do not fail -/

theorem quiet_mono {s : State} {m n : Nat} (h : Quiet s n) (hmn : m ≤ n) : Quiet s m := fun q hq => h q (Nat.lt_of_lt_of_le hq hmn)

/-- What is quiet from `s` on is quiet from a later state on. -/
theorem quiet_later {s t : State} {m n : Nat} (h : Quiet s (m + n)) (henv : t.env = s.env) (hcfg : t.cfg = s.cfg)
    (hlen : t.hist.length = s.hist.length + m) : Quiet t n := by
  intro q hq
  rw [State.failsAt_congr henv hcfg, hlen, Nat.add_assoc]
  exact h (m + q) (by omega)

theorem frameEvents_length (f : Frame) : (frameEvents f).length = 4 := rfl

section AfterFrame

variable (dc : Level) (b : Byte) (s : State)

@[simp] theorem afterFrame_env : (afterFrame dc b s).env = s.env := rfl
@[simp] theorem afterFrame_cfg : (afterFrame dc b s).cfg = s.cfg := rfl
@[simp] theorem afterFrame_shadow : (afterFrame dc b s).shadow = s.shadow := rfl
@[simp] theorem afterFrame_panel : (afterFrame dc b s).panel = s.panel := rfl
@[simp] theorem afterFrame_hist : (afterFrame dc b s).hist = s.hist ++ frameEvents ⟨dc, b⟩ := rfl
@[simp] theorem afterFrame_tByte : (afterFrame dc b s).tmp.tByte = b := rfl

theorem afterFrame_hist_length : (afterFrame dc b s).hist.length = s.hist.length + 4 := by simp [frameEvents_length]

end AfterFrame

/-! ### The shadow registers -/

/-- The shadow registers once the data bytes `sent` of a packet are complete. -/
def shadowRecorded (k : PacketKind) (sent : List Byte) (w : Shadow) : Shadow :=
  match k, sent with
  | .setRamXStartEnd, [a] => { w with winXs := a }
  | .setRamXStartEnd, [_, b] => { w with winXe := b }
  | .setRamYStartEnd, [a, b] => { w with winYs := word16 a b }
  | .setRamYStartEnd, [_, _, a, b] => { w with winYe := word16 a b }
  | .setRamXCounter, [a] => { w with curX := a }
  | .setRamYCounter, [a, b] => { w with curY := word16 a b }
  | _, _ => w

/-- The address packets, whose data bytes the shadow registers keep (R25). -/
def addressPackets : List PacketKind := [.setRamXStartEnd, .setRamYStartEnd, .setRamXCounter, .setRamYCounter]

theorem shadowRecorded_of_not_address {k : PacketKind} (hk : k ∉ addressPackets) (sent : List Byte) (w : Shadow) :
    shadowRecorded k sent w = w := by
  unfold shadowRecorded
  split <;> first | rfl | exact absurd (by decide) hk

/-- `recordShadow` changes the shadow registers, and of the ghost panel what is noted of window and cursor. -/
theorem recordShadow_eq (k : PacketKind) (sent : List Byte) (s : State) : recordShadow k sent s =
    (s.setShadow (shadowRecorded k sent s.shadow)).setPanel (recordShadow k sent s).panel := by
  unfold recordShadow
  split
  case h_7 h1 h2 h3 h4 h5 h6 =>
    rw [shadowRecorded.eq_7 _ _ _ h1 h2 h3 h4 h5 h6]
    rfl
  all_goals rfl

theorem recordShadow_of_not_address {k : PacketKind} (hk : k ∉ addressPackets) (sent : List Byte) (s : State) :
    recordShadow k sent s = s := by
  unfold recordShadow
  split <;> first | rfl | exact absurd (by decide) hk

theorem recordShadow_shown (k : PacketKind) (sent : List Byte) (s : State) : (recordShadow k sent s).panel.shown = s.panel.shown := by
  unfold recordShadow
  split
  case h_4 | h_6 => simp [noteWindow, noteCursor]
  all_goals rfl

/-! ### Packets none of whose requests fails -/

/-- The state after one data frame of a packet; `sent` are the data bytes with its byte. -/
def afterData (k : PacketKind) (sent : List Byte) (b : Byte) (s : State) : State :=
  recordShadow k sent (frameReceived (afterFrame .high b s))

/-- The state after the data frames of a packet; `sent` are the data bytes already sent. -/
def afterDataFrames (k : PacketKind) : List Byte → List Byte → State → State
  | _, [], s => s
  | sent, b :: bs, s => afterDataFrames k (sent ++ [b]) bs (afterData k (sent ++ [b]) b s)

theorem afterData_eq (k : PacketKind) (sent : List Byte) (b : Byte) (s : State) : afterData k sent b s = { s with
    hist := s.hist ++ frameEvents ⟨.high, b⟩, pins := { s.pins with dc := .driven .high, cs := .driven .high },
    tmp := { s.tmp with tByte := b }, shadow := shadowRecorded k sent s.shadow, panel := (afterData k sent b s).panel } := by
  rw [afterData, recordShadow_eq]
  rfl

theorem afterData_shown (k : PacketKind) (sent : List Byte) (b : Byte) (s : State) :
    (afterData k sent b s).panel.shown = s.panel.shown := by
  rw [afterData, recordShadow_shown]
  simp [frameReceived]

theorem sendDataFrames_ok (k : PacketKind) (sent data : List Byte) (s : State) (h : Quiet s (4 * data.length)) :
    sendDataFrames k sent data s = .ok (afterDataFrames k sent data s) := by
  induction data generalizing sent s with
  | nil => rfl
  | cons b bs ih =>
    rw [List.length_cons, show 4 * (bs.length + 1) = 4 + 4 * bs.length by omega] at h
    have hrest : Quiet (afterData k (sent ++ [b]) b s) (4 * bs.length) :=
      quiet_later h (by rw [afterData_eq]) (by rw [afterData_eq]) (by rw [afterData_eq]; simp [frameEvents_length])
    simp only [sendDataFrames, sendFrame_ok Config.dcData b s (quiet_mono h (by omega)), Asked.ok_bind]
    exact ih (sent ++ [b]) _ hrest

/-- The state after a packet none of whose requests failed. -/
def afterPacket (k : PacketKind) (data : List Byte) (s : State) : State :=
  afterDataFrames k [] data (afterFrame .low (commandByte s.cfg k) (s.setPanel (s.panel.begin k s.shadow)))

theorem sendPacket_ok (k : PacketKind) (data : List Byte) (s : State) (h : Quiet s (4 * (data.length + 1))) :
    sendPacket k data s = .ok (afterPacket k data s) := by
  rw [show 4 * (data.length + 1) = 4 + 4 * data.length by omega] at h
  unfold sendPacket
  have hframe : Quiet (s.setPanel (s.panel.begin k s.shadow)) 4 := quiet_mono (s := s) h (by omega)
  rw [sendFrame_ok _ _ _ hframe]
  exact sendDataFrames_ok k [] data _ (quiet_later h rfl rfl (afterFrame_hist_length _ _ _))

theorem exec_packet_ok {i : Instr} {k : PacketKind} {data : List Byte} {s : State} (hi : i.packetParts = some (k, data))
    (h : Quiet s (4 * (data.length + 1))) : exec i s = .next (afterPacket k data s) := by
  rw [exec_packet i k data s hi, transmit_ok k data s _ (sendPacket_ok k data s h)]

/-- The shadow registers after the data frames of a packet. -/
def shadowAfter (k : PacketKind) : List Byte → List Byte → Shadow → Shadow
  | _, [], w => w
  | sent, b :: bs, w => shadowAfter k (sent ++ [b]) bs (shadowRecorded k (sent ++ [b]) w)

theorem shadowAfter_of_not_address {k : PacketKind} (hk : k ∉ addressPackets) (sent data : List Byte) (w : Shadow) :
    shadowAfter k sent data w = w := by
  induction data generalizing sent w with
  | nil => rfl
  | cons b bs ih => rw [shadowAfter, ih, shadowRecorded_of_not_address hk]

/-- A state with the fields that data frames change. -/
def State.sentData (s : State) (es : List Event) (pins : Pins) (b : Byte) (w : Shadow) (p : Panel) : State :=
  { s with hist := s.hist ++ es, pins := pins, tmp := { s.tmp with tByte := b }, shadow := w, panel := p }

theorem afterDataFrames_eq (k : PacketKind) (sent data : List Byte) (s : State) : afterDataFrames k sent data s =
    s.sentData ((data.map fun b => ⟨.high, b⟩).flatMap frameEvents)
      (if data = [] then s.pins else { s.pins with dc := .driven .high, cs := .driven .high }) (data.getLast?.getD s.tmp.tByte)
      (shadowAfter k sent data s.shadow) (afterDataFrames k sent data s).panel := by
  induction data generalizing sent s with
  | nil => simp [afterDataFrames, State.sentData, shadowAfter]
  | cons b bs ih =>
    rw [afterDataFrames, ih, afterData_eq]
    simp only [State.sentData, shadowAfter, List.map_cons, List.flatMap_cons, List.append_assoc, List.getLast?_cons,
      Option.getD_some, reduceCtorEq, if_false, ite_self]

theorem afterDataFrames_shown (k : PacketKind) (sent data : List Byte) (s : State) :
    (afterDataFrames k sent data s).panel.shown = s.panel.shown := by
  induction data generalizing sent s with
  | nil => rfl
  | cons b bs ih => rw [afterDataFrames, ih, afterData_shown]

theorem afterPacket_eq (k : PacketKind) (data : List Byte) (s : State) : afterPacket k data s = { s with
    hist := s.hist ++ packetEvents (commandByte s.cfg k) data,
    pins := { s.pins with dc := .driven (if data = [] then .low else .high), cs := .driven .high },
    tmp := { s.tmp with tByte := data.getLast?.getD (commandByte s.cfg k) }, shadow := shadowAfter k [] data s.shadow,
    panel := (afterPacket k data s).panel } := by
  rw [afterPacket, afterDataFrames_eq]
  cases data <;>
    simp [State.sentData, afterFrame, packetEvents, packetFrames, State.setHist, State.setPins, State.setByte, State.setTmp,
      State.setPanel]

theorem afterPacket_shown {k : PacketKind} (hk : k ≠ .masterActivation) (data : List Byte) (s : State) :
    (afterPacket k data s).panel.shown = s.panel.shown := by
  rw [afterPacket, afterDataFrames_shown]
  exact Panel.begin_shown _ _ _ hk

end Sys2Proof.Machine

namespace Sys2Proof.Proofs

open Sys2Proof.Machine Sys2Proof.Safety

/-- Settles O52: the frames one after another, each as `sendFrame` leaves it, and the shadow registers of the address packets. -/
theorem packetTransmits : Obligations.PacketTransmits := by
  intro i k data s hi hquiet
  have hparts {j : Instr} (hj : i = j) : j.packetParts = some (k, data) := hj ▸ hi
  refine ⟨shadowAfter k [] data s.shadow, (afterPacket k data s).panel, ?_, ?_, ?_, ?_, ?_, ?_, fun hk => afterPacket_shown hk data s⟩
  · rw [exec_packet_ok hi hquiet, ← afterPacket_eq]
  · intro a b hj; cases hparts hj; rfl
  · intro a b d e hj; cases hparts hj; rfl
  · intro a hj; cases hparts hj; rfl
  · intro a b hj; cases hparts hj; rfl
  · exact fun hk => shadowAfter_of_not_address hk [] data s.shadow

end Sys2Proof.Proofs

/-! ### The packet that meets a failing request -/

namespace Sys2Proof.Machine

open Sys2Proof.Safety

/-- Requests one after another, up to the first that fails. -/
def askAll : List Request → State → Asked
  | [], s => .ok s
  | r :: rs, s => (ask r s).bind (askAll rs)

theorem Asked.bind_assoc (x : Asked) (f g : State → Asked) : (x.bind f).bind g = x.bind fun s => (f s).bind g := by
  cases x <;> rfl

theorem Asked.bind_ok (x : Asked) : x.bind .ok = x := by cases x <;> rfl

/-- The requests of a frame (R92). -/
def requestsOfFrame (f : Frame) : List Request := [.pinWrite .dc f.dc, .pinWrite .cs .low, .spiWrite f.byte, .pinWrite .cs .high]

theorem sendFrame_eq_askAll (dc : Level) (b : Byte) (s : State) :
    sendFrame dc b s = askAll (requestsOfFrame ⟨dc, b⟩) (s.setByte b) := by
  simp only [sendFrame, askAll, requestsOfFrame, Asked.bind_assoc, Asked.bind_ok]

theorem frameEvents_eq (f : Frame) : frameEvents f = (requestsOfFrame f).map fun r => ⟨r, .ok⟩ := rfl

/-- Of a packet with `es` to come, sent from `s`, request number `n` is the first to fail: what the transmission answers. -/
def StopsAt (x : Asked) (s : State) (es : List Event) (n : Nat) : Prop :=
  ∃ t e, x = .failed e.req t ∧ es[n]? = some e ∧ t.hist = s.hist ++ es.take n ++ [⟨e.req, .fail⟩]

theorem askAll_failed {rs : List Request} {s : State} {n : Nat} (hrs : ∀ r ∈ rs, r ≠ .pinRead) (hn : n < rs.length) (hquiet : Quiet s n)
    (hfail : s.failsAt (s.hist.length + n) = true) : StopsAt (askAll rs s) s (rs.map fun r => ⟨r, .ok⟩) n := by
  induction rs generalizing s n with
  | nil => cases hn
  | cons r rs ih =>
    cases n with
    | zero => exact ⟨s.record r .fail, ⟨r, .ok⟩, by rw [askAll, ask_failed r s hfail]; rfl, rfl, by simp⟩
    | succ n =>
      have hok : okReply r (s.busyAt s.hist.length) = .ok := by
        cases r
        case pinRead => exact absurd rfl (hrs _ List.mem_cons_self)
        all_goals rfl
      obtain ⟨t, e, hx, he, hhist⟩ := ih (s := (requestEffect r (s.busyAt s.hist.length) s).record r .ok) (n := n)
        (fun r' hr' => hrs r' (List.mem_cons_of_mem _ hr')) (by simpa using hn)
        (quiet_later (m := 1) (by rwa [Nat.add_comm]) (by simp) (by simp) (by simp))
        (by rw [State.failsAt_congr (s := s) (by simp) (by simp)]; simpa [Nat.add_assoc, Nat.add_comm 1] using hfail)
      refine ⟨t, e, ?_, by simpa using he, by simpa using hhist⟩
      rw [askAll, ask_ok r s (hquiet 0 (by omega)), hok, Asked.ok_bind, hx]

theorem sendFrame_failed {dc : Level} {b : Byte} {s : State} {n : Nat} (hn : n < 4) (hquiet : Quiet s n)
    (hfail : s.failsAt (s.hist.length + n) = true) : StopsAt (sendFrame dc b s) s (frameEvents ⟨dc, b⟩) n := by
  rw [sendFrame_eq_askAll, frameEvents_eq]
  exact askAll_failed (s := s.setByte b) (by simp [requestsOfFrame]) hn hquiet hfail

/-- A transmission that stops in its first part stops as a whole. -/
theorem StopsAt.bind {x : Asked} {s : State} {es es' : List Event} {n : Nat} (f : State → Asked) (hx : StopsAt x s es n) :
    StopsAt (x.bind f) s (es ++ es') n := by
  obtain ⟨t, e, rfl, he, hhist⟩ := hx
  have hn : n < es.length := (List.getElem?_eq_some_iff.mp he).1
  exact ⟨t, e, rfl, by rw [List.getElem?_append_left hn, he], by rw [List.take_append_of_le_length (by omega), hhist]⟩

/-- A transmission whose first part succeeds stops where its second part does. -/
theorem StopsAt.after {x : Asked} {s t : State} {es es' : List Event} {n : Nat} (hx : StopsAt x t es' n)
    (hhist : t.hist = s.hist ++ es) : StopsAt x s (es ++ es') (es.length + n) := by
  obtain ⟨u, e, rfl, he, hu⟩ := hx
  refine ⟨u, e, rfl, ?_, ?_⟩
  · rw [List.getElem?_append_right (by omega), Nat.add_sub_cancel_left, he]
  · rw [hu, hhist, List.take_length_add_append]
    simp

theorem sendDataFrames_failed {k : PacketKind} {sent data : List Byte} {s : State} {n : Nat} (hn : n < 4 * data.length)
    (hquiet : Quiet s n) (hfail : s.failsAt (s.hist.length + n) = true) :
    StopsAt (sendDataFrames k sent data s) s ((data.map fun b => ⟨.high, b⟩).flatMap frameEvents) n := by
  induction data generalizing sent s n with
  | nil => cases hn
  | cons b bs ih =>
    rw [List.map_cons, List.flatMap_cons, sendDataFrames]
    by_cases hfirst : n < 4
    · exact (sendFrame_failed hfirst hquiet hfail).bind _
    · obtain ⟨m, rfl⟩ := Nat.exists_eq_add_of_le (Nat.not_lt.mp hfirst)
      have hstate := afterData_eq k (sent ++ [b]) b s
      rw [sendFrame_ok _ _ _ (quiet_mono hquiet (by omega)), Asked.ok_bind]
      refine (ih (s := afterData k (sent ++ [b]) b s) (by simp only [List.length_cons] at hn; omega)
        (quiet_later hquiet (by rw [hstate]) (by rw [hstate]) (by rw [hstate]; simp [frameEvents_length])) ?_).after (by rw [hstate])
      rw [hstate]
      simpa [State.failsAt, State.busyAt, frameEvents_length, Nat.add_assoc] using hfail

theorem sendPacket_failed {k : PacketKind} {data : List Byte} {s : State} {n : Nat} (hn : n < 4 * (data.length + 1))
    (hquiet : Quiet s n) (hfail : s.failsAt (s.hist.length + n) = true) :
    StopsAt (sendPacket k data s) s (packetEvents (commandByte s.cfg k) data) n := by
  unfold sendPacket packetEvents packetFrames
  rw [List.flatMap_cons]
  by_cases hfirst : n < 4
  · exact (sendFrame_failed (s := s.setPanel (s.panel.begin k s.shadow)) hfirst hquiet hfail).bind _
  · obtain ⟨m, rfl⟩ := Nat.exists_eq_add_of_le (Nat.not_lt.mp hfirst)
    have hframe : Quiet (s.setPanel (s.panel.begin k s.shadow)) 4 := quiet_mono (s := s) hquiet (by omega)
    rw [sendFrame_ok _ _ _ hframe, Asked.ok_bind]
    have hrest := quiet_later (t := afterFrame .low (commandByte s.cfg k) (s.setPanel (s.panel.begin k s.shadow))) hquiet rfl rfl
      (afterFrame_hist_length _ _ _)
    refine (sendDataFrames_failed (by omega) hrest ?_).after rfl
    simpa [State.failsAt, frameEvents_length, Nat.add_assoc] using hfail

/-- The raise of a packet's failed request, when no host operation runs (log entry 12). -/
theorem transmitted_failed {s t : State} {q : Request} (hidle : Idle s) (hsame : SameControl s t) :
    transmitted (.failed q t) = raise (.transportFailure q) none t := by
  obtain ⟨-, hpc, hrs⟩ := hidle
  obtain ⟨hpc', hrs', -⟩ := hsame
  rw [transmitted, State.issuedCode, hpc', hrs', hpc, hrs]
  rfl

end Sys2Proof.Machine

namespace Sys2Proof.Proofs

open Sys2Proof.Machine Sys2Proof.Safety

/-- Settles O53: the first failing request stops its frame, the frame its packet, and TransportFailure is raised there. -/
theorem packetFailureStops : Obligations.PacketFailureStops := by
  intro i k data s n hi hidle hn hquiet hfail
  obtain ⟨t, e, hx, he, hhist⟩ := sendPacket_failed (k := k) hn hquiet hfail
  have hsame : SameControl s t := by simpa [hx] using sendPacket_sameControl k data s
  have hexec : exec i s = .next (raise (.transportFailure e.req) none t) := by
    rw [exec_packet i k data s hi, transmit, hx, transmitted_failed hidle hsame]
  obtain ⟨-, -, hflags, -, hres, hcnt, hfb⟩ := hsame
  obtain ⟨hact, -⟩ := hidle
  refine ⟨_, e, hexec, he, hhist, ?_, rfl, ?_, ⟨rfl, rfl, rfl⟩, hfb, hcnt, exec_sameInputs hexec⟩
  · simp [resultsAfter, hres, Cause.code]
  · simp [hflags, hact]

end Sys2Proof.Proofs

/-! ### Panel RAM after a write-RAM packet (R72) -/

namespace Sys2Proof.Machine

open Sys2Proof.Safety

/-- The ghost panel after data bytes of the packet under way, the shadow registers being `w`. -/
def Panel.received (w : Shadow) (data : List Byte) (p : Panel) : Panel := data.foldl (fun q b => q.data w b) p

theorem Panel.received_cons (w : Shadow) (b : Byte) (bs : List Byte) (p : Panel) :
    p.received w (b :: bs) = (p.data w b).received w bs := rfl

theorem afterDataFrames_panel {k : PacketKind} (hk : k ∉ addressPackets) (sent data : List Byte) (s : State) :
    (afterDataFrames k sent data s).panel = s.panel.received s.shadow data := by
  induction data generalizing sent s with
  | nil => rfl
  | cons b bs ih =>
    rw [afterDataFrames, ih, afterData, recordShadow_of_not_address hk]
    rfl

theorem afterPacket_panel {k : PacketKind} (hk : k ∉ addressPackets) (data : List Byte) (s : State) :
    (afterPacket k data s).panel = (s.panel.begin k s.shadow).received s.shadow data := by
  rw [afterPacket, afterDataFrames_panel hk]
  rfl

theorem Panel.data_cursorFresh (p : Panel) (w : Shadow) (b : Byte) : (p.data w b).cursorFresh = p.cursorFresh := by
  simp only [Panel.data]
  split
  · split <;> rfl
  · rfl

theorem Panel.received_cursorFresh (w : Shadow) (data : List Byte) (p : Panel) :
    (p.received w data).cursorFresh = p.cursorFresh := by
  induction data generalizing p with
  | nil => rfl
  | cons b bs ih => rw [Panel.received_cons, ih, Panel.data_cursorFresh]

/-- A write-RAM packet is under way, inside R72 (1)'s conditions so far. -/
def Panel.Writing (p : Panel) : Prop := p.sending = some .writeRam ∧ p.inWindow = true

/-- A write-RAM packet is under way that has left R72 (1)'s conditions. -/
def Panel.Spoiled (p : Panel) : Prop := p.sending = some .writeRam ∧ p.inWindow = false ∧ p.ram = []

theorem Panel.Writing.data_inside {p : Panel} {w : Shadow} {b : Byte} (h : p.Writing) (hx : w.curX.toNat + p.sent ≤ w.winXe.toNat) :
    p.data w b = { p with ram := p.ram.insert (16 * w.curY.toNat + (w.curX.toNat + p.sent)) b, sent := p.sent + 1 } := by
  obtain ⟨hsending, hinside⟩ := h
  simp [Panel.data, hsending, hinside, hx]

theorem Panel.Writing.data_outside {p : Panel} {w : Shadow} {b : Byte} (h : p.Writing) (hx : w.winXe.toNat < w.curX.toNat + p.sent) :
    (p.data w b).Spoiled := by
  obtain ⟨hsending, hinside⟩ := h
  simp [Panel.data, Panel.Spoiled, hsending, Nat.not_le.mpr hx]

theorem Panel.Spoiled.data {p : Panel} (w : Shadow) (b : Byte) (h : p.Spoiled) : (p.data w b).Spoiled := by
  obtain ⟨hsending, hinside, -⟩ := h
  simp [Panel.data, Panel.Spoiled, hsending, hinside]

theorem Panel.Spoiled.received {p : Panel} (w : Shadow) (data : List Byte) (h : p.Spoiled) : (p.received w data).Spoiled := by
  induction data generalizing p with
  | nil => exact h
  | cons b bs ih => exact ih (h.data w b)

/-- The first of consecutive bytes, listed before the others. -/
theorem lookup_insert_bytes (m : Memory) (c a : Nat) (b : Byte) (bs : List Byte) :
    (if c + 1 ≤ a ∧ a < c + 1 + bs.length then bs[a - (c + 1)]? else (m.insert c b).lookup a) =
      if c ≤ a ∧ a < c + (bs.length + 1) then (b :: bs)[a - c]? else m.lookup a := by
  rcases Nat.lt_trichotomy a c with ha | rfl | ha
  · rw [if_neg (by omega), if_neg (by omega), Memory.lookup_insert_ne m c a b (by omega)]
  · rw [if_neg (by omega), if_pos (by omega), Memory.lookup_insert_self, Nat.sub_self]
    rfl
  · obtain ⟨d, rfl⟩ := Nat.exists_eq_add_of_lt ha
    have hd : c + d + 1 - c = d + 1 := by omega
    have hd' : c + d + 1 - (c + 1) = d := by omega
    by_cases hlen : d < bs.length
    · rw [if_pos (by omega), if_pos (by omega), hd, hd']
      rfl
    · rw [if_neg (by omega), if_neg (by omega), Memory.lookup_insert_ne m c _ b (by omega)]

/-- Bytes that all lie inside the window go to consecutive addresses (R72 (1)). -/
theorem Panel.Writing.received_ram {p : Panel} {w : Shadow} {data : List Byte} (h : p.Writing)
    (hx : w.curX.toNat + p.sent + data.length ≤ w.winXe.toNat + 1) (a : Nat) :
    (p.received w data).ram.lookup a =
      if 16 * w.curY.toNat + (w.curX.toNat + p.sent) ≤ a ∧ a < 16 * w.curY.toNat + (w.curX.toNat + p.sent) + data.length then
        data[a - (16 * w.curY.toNat + (w.curX.toNat + p.sent))]?
      else p.ram.lookup a := by
  induction data generalizing p with
  | nil => rw [if_neg (by simp)]; rfl
  | cons b bs ih =>
    rw [List.length_cons] at hx ⊢
    have hstep := h.data_inside (b := b) (show w.curX.toNat + p.sent ≤ w.winXe.toNat by omega)
    have hwriting : (p.data w b).Writing := by rw [hstep]; exact h
    have hsent : (p.data w b).sent = p.sent + 1 := by rw [hstep]
    have hram : (p.data w b).ram = p.ram.insert (16 * w.curY.toNat + (w.curX.toNat + p.sent)) b := by rw [hstep]
    rw [Panel.received_cons, ih hwriting (by omega), hsent, hram]
    rw [show 16 * w.curY.toNat + (w.curX.toNat + (p.sent + 1)) = 16 * w.curY.toNat + (w.curX.toNat + p.sent) + 1 by omega]
    exact lookup_insert_bytes p.ram _ a b bs

/-- Bytes the last of which lies outside the window make panel RAM unknown (R72 (2)). -/
theorem Panel.Writing.received_spoiled {p : Panel} {w : Shadow} {data : List Byte} (h : p.Writing) (hdata : data ≠ [])
    (hx : w.winXe.toNat + 1 < w.curX.toNat + p.sent + data.length) : (p.received w data).Spoiled := by
  induction data generalizing p with
  | nil => exact absurd rfl hdata
  | cons b bs ih =>
    rw [List.length_cons] at hx
    rw [Panel.received_cons]
    by_cases hin : w.curX.toNat + p.sent ≤ w.winXe.toNat
    · have hstep := h.data_inside (b := b) hin
      have hsent : (p.data w b).sent = p.sent + 1 := by rw [hstep]
      refine ih (by rw [hstep]; exact h) ?_ (by omega)
      rintro rfl
      simp only [List.length_nil] at hx
      omega
    · exact (h.data_outside (Nat.not_le.mp hin)).received w bs

/-- R72 (1)'s conditions on window, cursor and panel for a row of sixteen bytes. -/
def RowInside (p : Panel) (w : Shadow) : Prop :=
  w.winValid = true ∧ w.curValid = true ∧ p.cursorFresh = true ∧ p.asleep = false ∧ p.refreshing = false ∧
    w.winXs.toNat ≤ w.curX.toNat ∧ w.curX.toNat + 15 ≤ w.winXe.toNat ∧ w.winYs.toNat ≤ w.curY.toNat ∧
    w.curY.toNat ≤ w.winYe.toNat ∧ w.winXe.toNat < 16 ∧ w.winYe.toNat < 296

/-- They are `ramWindowOk` with room for the sixteen bytes. -/
theorem rowInside_iff (p : Panel) (w : Shadow) :
    RowInside p w ↔ ramWindowOk p w = true ∧ w.curX.toNat + 15 ≤ w.winXe.toNat := by
  simp only [RowInside, ramWindowOk, Bool.and_eq_true, Bool.not_eq_true', decide_eq_true_eq]
  tauto

theorem begin_writeRam_inside {p : Panel} {w : Shadow} (h : ramWindowOk p w = true) :
    p.begin .writeRam w = { p with
      sending := some .writeRam, sent := 0, inWindow := true, cursorX := false, cursorFresh := false, left := [] } := by
  have hidle : p.refreshing = false := by
    simp only [ramWindowOk, Bool.and_eq_true, Bool.not_eq_true'] at h
    tauto
  simp [Panel.begin, Panel.enter, Panel.meet_idle p _ hidle, h]

theorem begin_writeRam_outside {p : Panel} {w : Shadow} (h : ramWindowOk p w = false) : (p.begin .writeRam w).Spoiled := by
  have hmeet : ramWindowOk (p.meet .writeRam) w = false := by
    unfold Panel.meet
    split
    case isTrue => simpa [ramWindowOk, Panel.forgetRam] using h
    case isFalse => exact h
  simp [Panel.begin, Panel.enter, hmeet, Panel.Spoiled]

theorem begin_writeRam_cursorFresh (p : Panel) (w : Shadow) : (p.begin .writeRam w).cursorFresh = false := by
  simp only [Panel.begin, Panel.enter]
  split <;> rfl

/-- A row of sixteen bytes inside the window (R72 (1)). -/
theorem writeRam_inside {p : Panel} {w : Shadow} {data : List Byte} (hlen : data.length = 16) (h : RowInside p w) {x y : Nat}
    (hx : x < 16) : ((p.begin .writeRam w).received w data).ramAt x y =
      if y = w.curY.toNat ∧ w.curX.toNat ≤ x then data[x - w.curX.toNat]? else p.ramAt x y := by
  obtain ⟨hok, hroom⟩ := (rowInside_iff p w).mp h
  obtain ⟨-, -, -, -, -, -, -, -, -, hwidth, -⟩ := h
  have hbegin := begin_writeRam_inside hok
  have hwriting : (p.begin .writeRam w).Writing := by rw [hbegin]; exact ⟨rfl, rfl⟩
  have hsent : (p.begin .writeRam w).sent = 0 := by rw [hbegin]
  have hram : (p.begin .writeRam w).ram = p.ram := by rw [hbegin]
  have hcur : w.curX.toNat = 0 := by omega
  rw [Panel.ramAt, hwriting.received_ram (by omega), hsent, hram, hcur, hlen]
  by_cases hy : y = w.curY.toNat
  · rw [if_pos (by omega), if_pos ⟨hy, by omega⟩, hy]
    congr 1
    omega
  · rw [if_neg (by omega), if_neg (by simp [hy])]
    rfl

/-- A row that is not wholly inside the window (R72 (2)). -/
theorem writeRam_outside {p : Panel} {w : Shadow} {data : List Byte} (hlen : data.length = 16) (h : ¬RowInside p w) :
    ((p.begin .writeRam w).received w data).Spoiled := by
  rw [rowInside_iff] at h
  cases hok : ramWindowOk p w with
  | false => exact (begin_writeRam_outside hok).received w data
  | true =>
    have hbegin := begin_writeRam_inside hok
    have hroom : ¬w.curX.toNat + 15 ≤ w.winXe.toNat := fun hroom => h ⟨hok, hroom⟩
    refine Panel.Writing.received_spoiled (by rw [hbegin]; exact ⟨rfl, rfl⟩) ?_ (by rw [hbegin, hlen]; simp only; omega)
    rintro rfl
    cases hlen

end Sys2Proof.Machine

namespace Sys2Proof.Proofs

open Sys2Proof.Machine Sys2Proof.Safety

/-- Settles O54: the first byte meets R72 (1)'s conditions or not, the others the window's right edge or not. -/
theorem writeRamPacketEffect : Obligations.WriteRamPacketEffect := by
  intro s data hlen hquiet
  have hpanel : (afterPacket .writeRam data s).panel = (s.panel.begin .writeRam s.shadow).received s.shadow data :=
    afterPacket_panel (by decide) data s
  refine ⟨_, exec_packet_ok rfl (by rw [hlen]; exact hquiet), fun hin x y hx => ?_, fun hout x y => ?_, ?_,
    afterPacket_shown (by decide) data s⟩ <;> rw [hpanel]
  · exact writeRam_inside hlen hin hx
  · obtain ⟨-, -, hram⟩ := writeRam_outside hlen hout
    rw [Panel.ramAt, hram]
    rfl
  · rw [Panel.received_cursorFresh, begin_writeRam_cursorFresh]

end Sys2Proof.Proofs

/-! ## Runs of the sequencer (R13, R130)

A stretch of a run is put together from one rule per form of a line: a silent line, a return, a request. `settle` stands in the middle
of a step, with some of its silent lines left to do; `resume` is that rest of the step and the steps after it. -/

namespace Sys2Proof.Machine

open Sys2Proof.Safety

/-! ### Steps one after another -/

theorem run_succ_eq (n : Nat) (s : State) : run (n + 1) s =
    match step s with
    | .next t => run n t
    | .fault f => .fault f
    | .refused r => .refused r := by
  show Host.Core.run core (n + 1) s = _
  simp only [Host.Core.run, show core.step s = step s from rfl]
  cases step s <;> rfl

theorem run_succ {n : Nat} {s t : State} (h : step s = .next t) : run (n + 1) s = run n t := by rw [run_succ_eq, h]

/-- The rest of a step, with `k` silent lines left, and the `n` steps after it. -/
def resume (k n : Nat) (s : State) : Host.Outcome State Fault Refusal :=
  match settle k s with
  | .next t => run n t
  | .fault f => .fault f
  | .refused r => .refused r

theorem resume_of_settle {k n : Nat} {s t : State} (h : settle k s = .next t) : resume k n s = run n t := by simp [resume, h]

theorem resume_congr {k k' : Nat} {s t : State} (h : settle k s = settle k' t) (n : Nat) : resume k n s = resume k' n t := by
  simp only [resume, h]

/-- At a request line the step is over. -/
theorem settle_of_ask {s : State} {r : Request} (hl : line s = .ask r) (k : Nat) : settle k s = .next s := by
  cases k with
  | zero => rfl
  | succ k => exact settle_ask k s r hl

theorem run_replied {n : Nat} {s : State} {r : Request} (hact : s.flags.active = true) (hl : line s = .ask r)
    (hf : s.failsAt s.hist.length = false) :
    run (n + 1) s = resume settleFuel n (s.replied r (s.busyAt s.hist.length)) := by
  rw [run_succ_eq, step_replied hact hl hf]
  rfl

/-! ### What the environment answers -/

/-- The events are those of the levels of `BUSY` from request number `p` on. -/
def Levels (s : State) (p : Nat) (es : List Event) : Prop :=
  ∀ i e, es[i]? = some e → e.reply = okReply e.req (s.busyAt (p + i))

theorem levels_append (s : State) (p : Nat) (es es' : List Event) :
    Levels s p (es ++ es') ↔ Levels s p es ∧ Levels s (p + es.length) es' := by
  constructor
  · intro h
    refine ⟨fun i e he => h i e ?_, fun i e he => ?_⟩
    · rw [List.getElem?_append_left (List.getElem?_eq_some_iff.mp he).1, he]
    · rw [Nat.add_assoc]
      exact h (es.length + i) e (by rw [List.getElem?_append_right (by omega), Nat.add_sub_cancel_left, he])
  · rintro ⟨h, h'⟩ i e he
    by_cases hi : i < es.length
    · exact h i e (by rwa [List.getElem?_append_left hi] at he)
    · rw [List.getElem?_append_right (by omega)] at he
      have := h' (i - es.length) e he
      rwa [show p + es.length + (i - es.length) = p + i by omega] at this

theorem levels_nil (s : State) (p : Nat) : Levels s p [] := nofun

theorem levels_congr {s t : State} (henv : t.env = s.env) (p : Nat) (es : List Event) : Levels t p es ↔ Levels s p es := by
  simp only [Levels, State.busyAt_congr henv]

/-- Events that are not polls depend on no level. -/
theorem levels_of_ok {s : State} {p : Nat} {es : List Event} (h : ∀ e ∈ es, e.reply = .ok ∧ e.req ≠ .pinRead) : Levels s p es := by
  intro i e he
  obtain ⟨hreply, hreq⟩ := h e (List.mem_of_getElem? he)
  rw [hreply]
  revert hreq
  cases e.req <;> simp [okReply]

/-- None of the requests of the events fails, and they are what the environment answers. -/
def Answers (s : State) (es : List Event) : Prop := Quiet s es.length ∧ Levels s s.hist.length es

theorem answers_append {s : State} {es es' : List Event} (h : Answers s (es ++ es')) : Answers s es := by
  obtain ⟨hquiet, hlevels⟩ := h
  exact ⟨quiet_mono hquiet (by simp), ((levels_append s _ es es').mp hlevels).1⟩

theorem answers_later {s t : State} {es es' : List Event} (h : Answers s (es ++ es')) (henv : t.env = s.env) (hcfg : t.cfg = s.cfg)
    (hhist : t.hist = s.hist ++ es) : Answers t es' := by
  obtain ⟨hquiet, hlevels⟩ := h
  rw [List.length_append] at hquiet
  refine ⟨quiet_later hquiet henv hcfg (by rw [hhist, List.length_append]), ?_⟩
  rw [levels_congr henv, hhist, List.length_append]
  exact ((levels_append s _ es es').mp hlevels).2

/-! ### Stretches of a run -/

/-- After the events `es`, from `s` on, the sequencer waits in `u` for the answer to the request `r`. -/
structure WaitsAt (s : State) (es : List Event) (r : Request) (u : State) : Prop where
  active : u.flags.active = true
  env : u.env = s.env
  cfg : u.cfg = s.cfg
  fb : u.fb = s.fb
  hist : u.hist = s.hist ++ es
  line : line u = .ask r

/-- Every state in which the sequencer waits for the answer to a request of the stretch satisfies `P`; and, if the environment answers
so, the stretch from `s`, with `k` silent lines left in its step, makes the events `es` and comes to `t`, with `k'` left. -/
structure Runs (P : State → Prop) (k : Nat) (s : State) (es : List Event) (k' : Nat) (t : State) : Prop where
  env : t.env = s.env
  cfg : t.cfg = s.cfg
  fb : t.fb = s.fb
  hist : t.hist = s.hist ++ es
  done : Answers s es → ∀ n, resume k (es.length + n) s = resume k' n t
  waits : ∀ n e, es[n]? = some e → Answers s (es.take n) → ∃ u, resume k n s = .next u ∧ WaitsAt s (es.take n) e.req u ∧ P u

section RunRules

variable {P : State → Prop} {k k' k'' : Nat} {s t u : State} {es es' : List Event}

theorem runs_of_settle (h : settle k s = settle k' t) (henv : t.env = s.env) (hcfg : t.cfg = s.cfg) (hfb : t.fb = s.fb)
    (hhist : t.hist = s.hist) : Runs P k s [] k' t where
  env := henv
  cfg := hcfg
  fb := hfb
  hist := by simp [hhist]
  done _ n := by rw [List.length_nil, Nat.zero_add]; exact resume_congr h n
  waits := nofun

/-- A silent line. -/
theorem runs_silent (hl : line s = .silent t) (henv : t.env = s.env) (hcfg : t.cfg = s.cfg) (hfb : t.fb = s.fb)
    (hhist : t.hist = s.hist) : Runs P (k + 1) s [] k t :=
  runs_of_settle (settle_silent k s t hl) henv hcfg hfb hhist

theorem afterCall_env (r : Routine) (n : Nat) (s : State) : (afterCall r n s).env = s.env := by rw [afterCall_eq]
theorem afterCall_cfg (r : Routine) (n : Nat) (s : State) : (afterCall r n s).cfg = s.cfg := by rw [afterCall_eq]
theorem afterCall_hist (r : Routine) (n : Nat) (s : State) : (afterCall r n s).hist = s.hist := by rw [afterCall_eq]

/-- A return to a caller. -/
theorem runs_return {f : PC} {fs : List PC} (hl : line s = .ret t) (hrs : t.rs = f :: fs) (henv : t.env = s.env)
    (hcfg : t.cfg = s.cfg) (hfb : t.fb = s.fb) (hhist : t.hist = s.hist) : Runs P (k + 1) s [] k (returnTo f fs t) :=
  runs_of_settle (settle_ret_cons k s t f fs hl hrs) ((afterCall_env _ _ _).trans henv) ((afterCall_cfg _ _ _).trans hcfg)
    ((afterCall_fb _ _ _).trans hfb) ((afterCall_hist _ _ _).trans hhist)

theorem answered_env (s : State) : (answered s).env = s.env := by rw [answered_eq]
theorem answered_cfg (s : State) : (answered s).cfg = s.cfg := by rw [answered_eq]

/-- A request. -/
theorem runs_ask {r : Request} (l : Level) (hact : s.flags.active = true) (hl : line s = .ask r) (hP : P s) :
    Runs P k s [⟨r, okReply r l⟩] settleFuel (s.replied r l) where
  env := by simp [State.replied, answered_env]
  cfg := by simp [State.replied, answered_cfg]
  fb := replied_fb s r l
  hist := replied_hist s r l
  done := by
    rintro ⟨hquiet, hlevels⟩ n
    have hreply : okReply r l = okReply r (s.busyAt s.hist.length) := hlevels 0 _ rfl
    have hsame : s.replied r l = s.replied r (s.busyAt s.hist.length) := by
      cases r
      case pinRead => rw [Reply.level.inj hreply]
      all_goals rfl
    rw [resume_of_settle (settle_of_ask hl k), List.length_singleton, Nat.add_comm, run_replied hact hl (hquiet 0 Nat.one_pos), hsame]
  waits n e he _ := by
    cases n with
    | zero =>
      cases he
      exact ⟨s, resume_of_settle (settle_of_ask hl k), ⟨hact, rfl, rfl, rfl, by simp, hl⟩, hP⟩
    | succ n => cases he

/-- The waiting states of the second of two stretches. -/
theorem Runs.waits_second {Q : State → Prop} (h : Runs Q k s es k' t) (h' : Runs P k' t es' k'' u) {n : Nat} {e : Event}
    (hn : es.length ≤ n) (he : (es ++ es')[n]? = some e) (hanswers : Answers s ((es ++ es').take n)) :
    ∃ v, resume k n s = .next v ∧ WaitsAt s ((es ++ es').take n) e.req v ∧ P v := by
  obtain ⟨m, rfl⟩ := Nat.exists_eq_add_of_le hn
  rw [List.getElem?_append_right (by omega), Nat.add_sub_cancel_left] at he
  rw [List.take_length_add_append] at hanswers ⊢
  obtain ⟨v, hv, hat, hP⟩ := h'.waits m e he (answers_later hanswers h.env h.cfg h.hist)
  exact ⟨v, by rw [h.done (answers_append hanswers), hv], ⟨hat.active, hat.env.trans h.env, hat.cfg.trans h.cfg, hat.fb.trans h.fb,
    by rw [hat.hist, h.hist, List.append_assoc], hat.line⟩, hP⟩

/-- Two stretches, one after the other. -/
theorem Runs.trans (h : Runs P k s es k' t) (h' : Runs P k' t es' k'' u) : Runs P k s (es ++ es') k'' u where
  env := h'.env.trans h.env
  cfg := h'.cfg.trans h.cfg
  fb := h'.fb.trans h.fb
  hist := by rw [h'.hist, h.hist, List.append_assoc]
  done hanswers n := by
    rw [List.length_append, Nat.add_assoc, h.done (answers_append hanswers)]
    exact h'.done (answers_later hanswers h.env h.cfg h.hist) n
  waits n e he hanswers := by
    by_cases hn : n < es.length
    · rw [List.getElem?_append_left hn] at he
      rw [List.take_append_of_le_length (Nat.le_of_lt hn)] at hanswers ⊢
      exact h.waits n e he hanswers
    · exact h.waits_second h' (Nat.not_lt.mp hn) he hanswers

theorem Runs.copy {es₁ : List Event} {t₁ : State} (h : Runs P k s es k' t) (hes : es₁ = es) (ht : t₁ = t) : Runs P k s es₁ k' t₁ := by
  rw [hes, ht]
  exact h

/-- The end of the operation after the stretch. -/
theorem Runs.ends {f : State} (h : Runs P k s es (k' + 1) t) (hl : line t = .ret f) (hrs : f.rs = []) (hanswers : Answers s es) :
    resume k es.length s = .next f.finish := by
  have hdone := h.done hanswers 0
  rw [Nat.add_zero] at hdone
  rw [hdone, resume_of_settle (settle_ret_nil k' t f hl hrs)]
  rfl

/-- The stretch begins with its first request. -/
theorem Runs.begins (h : Runs P k s es k' t) (hne : es ≠ []) : ∃ u, settle k s = .next u ∧ ∃ r, WaitsAt s [] r u := by
  obtain ⟨e, he⟩ : ∃ e, es[0]? = some e := by
    cases es with
    | nil => exact absurd rfl hne
    | cons e es => exact ⟨e, rfl⟩
  obtain ⟨u, hu, hat, -⟩ := h.waits 0 e he ⟨nofun, levels_nil _ _⟩
  refine ⟨u, ?_, e.req, hat⟩
  unfold resume at hu
  split at hu
  · rename_i v hv
    rw [hv, ← hu]
    rfl
  · cases hu
  · cases hu

end RunRules

/-- An instruction whose execution begins a stretch with a request, at whose end the operation ends. -/
theorem exec_completes {P : State → Prop} {i : Instr} {k k' n : Nat} {s a t f : State} {es : List Event} (hexec : exec i s = settle k a)
    (hhist : a.hist = s.hist) (henv : a.env = s.env) (hcfg : a.cfg = s.cfg) (h : Runs P k a es (k' + 1) t) (hl : line t = .ret f)
    (hrs : f.rs = []) (hlen : es.length = n + 1) (hanswers : Answers s es) :
    ∃ u, exec i s = .next u ∧ u.flags.active = true ∧ u.hist = s.hist ∧ u.fb = a.fb ∧ run (n + 1) u = .next f.finish := by
  have hanswers' : Answers a es := answers_later (es := []) hanswers henv hcfg (by simp [hhist])
  obtain ⟨u, hsettle, r, hat⟩ := h.begins (List.ne_nil_of_length_eq_add_one hlen)
  refine ⟨u, hexec.trans hsettle, hat.active, by rw [hat.hist, hhist, List.append_nil], hat.fb, ?_⟩
  rw [← resume_of_settle hsettle, ← hlen]
  exact h.ends hl hrs hanswers'

/-- An operation of the host that is accepted, from its start to its end. -/
theorem op_completes {P : State → Prop} {op : HostOp} {k' n : Nat} {s t f : State} {es : List Event} (hact : s.flags.active = false)
    (hacc : acceptance op s = none) (h : Runs P settleFuel (accept op s) es (k' + 1) t) (hl : line t = .ret f) (hrs : f.rs = [])
    (hlen : es.length = n + 1) (hanswers : Answers s es) :
    ∃ u, exec op.instr s = .next u ∧ u.flags.active = true ∧ u.hist = s.hist ∧ run (n + 1) u = .next f.finish := by
  obtain ⟨u, hexec, hactive, hhist, -, hrun⟩ := exec_completes ((exec_hostOp op s).trans (issue_accepted op s hact hacc)) (by simp)
    (by simp) (by simp) h hl hrs hlen hanswers
  exact ⟨u, hexec, hactive, hhist, hrun⟩

end Sys2Proof.Machine

/-! ## ATTACH, TEARDOWN and the busy wait (R134, R135, R200, R202) -/

namespace Sys2Proof.Machine

open Sys2Proof.Safety

/-! ### Requests one after another -/

/-- The state after the requests, all answered, none of them a poll. -/
def repliesTo : List Request → State → State
  | [], s => s
  | r :: rs, s => repliesTo rs (s.replied r .low)

/-- The events of requests that are no polls, all answered. -/
def okEvents (rs : List Request) : List Event := rs.map fun r => ⟨r, .ok⟩

theorem levels_okEvents {s : State} {p : Nat} {rs : List Request} (h : ∀ r ∈ rs, r ≠ .pinRead) : Levels s p (okEvents rs) := by
  refine levels_of_ok fun e he => ?_
  obtain ⟨r, hr, rfl⟩ := List.mem_map.mp he
  exact ⟨rfl, h r hr⟩

theorem okReply_of_ne {r : Request} (h : r ≠ .pinRead) (l : Level) : okReply r l = .ok := by
  cases r <;> first | rfl | contradiction

theorem replied_tmp (s : State) (r : Request) (l : Level) : (s.replied r l).tmp = s.tmp := by
  rw [State.replied, answered_eq]
  simp

theorem replied_active (s : State) (r : Request) (l : Level) : (s.replied r l).flags.active = s.flags.active := by simp

/-- Lines that ask requests, one after another. -/
theorem runs_asks {P : State → Prop} {k n : Nat} {q : Routine} {rs : List Request} {s : State} (hact : s.flags.active = true)
    (hpc : s.pc = ⟨q, n⟩) (hrs : ∀ r ∈ rs, r ≠ .pinRead)
    (hlines : ∀ i r, rs[i]? = some r → ∀ u : State, u.pc = ⟨q, n + i⟩ → u.tmp = s.tmp → line u = .ask r)
    (hP : ∀ i, i < rs.length → P (repliesTo (rs.take i) s)) (hne : rs ≠ []) :
    Runs P k s (okEvents rs) settleFuel (repliesTo rs s) := by
  induction rs generalizing s n k with
  | nil => exact absurd rfl hne
  | cons r rs ih =>
    have hask := runs_ask (k := k) .low hact (hlines 0 r rfl s hpc rfl) (hP 0 (Nat.succ_pos _))
    rw [okReply_of_ne (hrs r List.mem_cons_self)] at hask
    by_cases hlast : rs = []
    · subst hlast
      exact hask
    · refine hask.trans (ih (n := n + 1) (by rw [replied_active, hact]) (by rw [replied_pc, hpc])
        (fun r' hr' => hrs r' (List.mem_cons_of_mem _ hr')) (fun i r' hr' u hu htmp => ?_) (fun i hi => ?_) hlast)
      · exact hlines (i + 1) r' hr' u (by rw [hu, Nat.add_assoc, Nat.add_comm 1]) (htmp.trans (replied_tmp s r .low))
      · exact hP (i + 1) (Nat.succ_lt_succ hi)

/-! ### ATTACH and TEARDOWN -/

/-- The requests of ATTACH (R200). -/
def attachRequests : List Request := [.acquire .rst, .acquire .dc, .acquire .cs, .acquire .busy, .acquire .spi]

/-- The requests of TEARDOWN (R202). -/
def teardownRequests : List Request :=
  [.pinWrite .rst .low, .pinWrite .dc .low, .release .rst, .release .dc, .release .cs, .release .busy, .release .spi]

theorem attach_runs {s : State} (hact : s.flags.active = true) (hpc : s.pc = ⟨.op .attach, 0⟩) :
    Runs (fun _ => True) settleFuel s (okEvents attachRequests) settleFuel (repliesTo attachRequests s) := by
  refine runs_asks hact hpc (by decide) (fun i r hr u hu _ => ?_) (fun _ _ => trivial) (by decide)
  rcases i with _ | _ | _ | _ | _ | i <;> cases hr <;> simp [line, hu, attachLine]

theorem teardown_runs {s : State} (hact : s.flags.active = true) (hpc : s.pc = ⟨.op .teardown, 0⟩) :
    Runs (fun _ => True) settleFuel s (okEvents teardownRequests) settleFuel (repliesTo teardownRequests s) := by
  refine runs_asks hact hpc (by decide) (fun i r hr u hu _ => ?_) (fun _ _ => trivial) (by decide)
  rcases i with _ | _ | _ | _ | _ | _ | _ | i <;> cases hr <;> simp [line, hu, teardownLine]

theorem repliesTo_attach {s : State} (hpc : s.pc = ⟨.op .attach, 0⟩) : repliesTo attachRequests s = { s with
    pc := ⟨.op .attach, 5⟩, hist := s.hist ++ okEvents attachRequests,
    pins := { s.pins with ownRst := true, ownDc := true, ownCs := true, ownBusy := true, ownSpi := true } } := by
  simp [repliesTo, attachRequests, State.replied, answered, hpc, okReply, State.record, State.setHist, State.setPins, State.advance,
    State.setPc, Pins.acquire, okEvents]

theorem repliesTo_teardown {s : State} (hpc : s.pc = ⟨.op .teardown, 0⟩) : repliesTo teardownRequests s = { s with
    pc := ⟨.op .teardown, 7⟩, hist := s.hist ++ okEvents teardownRequests, panel := s.panel.forgetRam,
    pins := { rst := .undriven, dc := .undriven, cs := .undriven, ownRst := false, ownDc := false, ownCs := false,
              ownBusy := false, ownSpi := false } } := by
  simp [repliesTo, teardownRequests, State.replied, answered, hpc, okReply, State.record, State.setHist, State.setPins, State.advance,
    State.setPc, Pins.release, Pins.drive, okEvents, heldInReset, State.setPanel]

theorem flags_of_idle {f : Flags} (h : f.active = false) :
    { active := false, busySample := f.busySample, fbValid := f.fbValid, fault := f.fault } = f := by rw [← h]

end Sys2Proof.Machine

namespace Sys2Proof.Proofs

open Sys2Proof.Machine Sys2Proof.Safety

/-- Settles O37: the five requests one after another. -/
theorem attachCompletes : Obligations.AttachCompletes := by
  intro s hact hlife hquiet
  have hl : line (repliesTo attachRequests (accept .attach s)) =
      .ret ((repliesTo attachRequests (accept .attach s)).setLife .uninitialized) := by
    rw [repliesTo_attach (accept_pc .attach s)]
    rfl
  obtain ⟨t, hexec, hactive, hhist, hrun⟩ := op_completes hact (by simp [acceptance, hlife, verdict])
    (attach_runs (s := accept .attach s) (by simp) (accept_pc .attach s)) hl
    (by rw [repliesTo_attach (accept_pc .attach s)]; simp [State.setLife]) rfl ⟨hquiet, levels_okEvents (by decide)⟩
  refine ⟨t, hexec, hactive, hhist, hrun.trans ?_⟩
  rw [repliesTo_attach (accept_pc .attach s)]
  simp [State.setLife, State.finish, State.setPc, State.setFlags, State.setRes, accept, sample, State.setRs]
  exact ⟨flags_of_idle hact, rfl⟩

/-- Settles O51: the seven requests one after another; the write of `RST` holds the panel in reset. -/
theorem teardownCompletes : Obligations.TeardownCompletes := by
  intro s hact hlife hquiet
  have hacc : acceptance .teardown s = none := by
    simp only [List.mem_cons, List.not_mem_nil, or_false] at hlife
    rcases hlife with h | h | h <;> simp [acceptance, h, verdict]
  have hl : line (repliesTo teardownRequests (accept .teardown s)) =
      .ret ((repliesTo teardownRequests (accept .teardown s)).setLife .released) := by
    rw [repliesTo_teardown (accept_pc .teardown s)]
    rfl
  obtain ⟨t, hexec, hactive, hhist, hrun⟩ := op_completes hact hacc
    (teardown_runs (s := accept .teardown s) (by simp) (accept_pc .teardown s)) hl
    (by rw [repliesTo_teardown (accept_pc .teardown s)]; simp [State.setLife]) rfl ⟨hquiet, levels_okEvents (by decide)⟩
  refine ⟨t, hexec, hactive, hhist, hrun.trans ?_⟩
  rw [repliesTo_teardown (accept_pc .teardown s)]
  simp [State.setLife, State.finish, State.setPc, State.setFlags, State.setRes, accept, sample, State.setRs]
  exact ⟨flags_of_idle hact, rfl⟩

end Sys2Proof.Proofs

/-! ### WAIT_IDLE -/

namespace Sys2Proof.Machine

open Sys2Proof.Safety

/-- In `u` the sequencer waits for a request, later than `s` or in it, with the ghost panel, the rows sent and the running operation as
in `s`. -/
def Waiting (s u : State) : Prop :=
  u.panel = s.panel ∧ rowsSent u = rowsSent s ∧ s.hist.length ≤ u.hist.length ∧ runningRoutine u.pc u.rs = runningRoutine s.pc s.rs

theorem Waiting.refl (s : State) : Waiting s s := ⟨rfl, rfl, Nat.le_refl _, rfl⟩

theorem Waiting.trans {s t u : State} (h : Waiting s t) (h' : Waiting t u) : Waiting s u := by
  obtain ⟨hpanel, hrows, hlen, hrunning⟩ := h
  obtain ⟨hpanel', hrows', hlen', hrunning'⟩ := h'
  exact ⟨hpanel'.trans hpanel, hrows'.trans hrows, hlen.trans hlen', hrunning'.trans hrunning⟩

/-- The state after a poll that read `HIGH`, at the delay line. -/
def State.busyPolled (s : State) : State := { s with
  pc := ⟨.waitIdle, 3⟩, hist := s.hist ++ [⟨.pinRead, .level .high⟩], flags := { s.flags with busySample := true } }

/-- The state after a poll that read `HIGH` and the delay after it, at the poll line again. -/
def State.busyRound (s : State) : State := { s with
  pc := ⟨.waitIdle, 1⟩, hist := s.hist ++ [⟨.pinRead, .level .high⟩, ⟨.delay 200, .ok⟩],
  flags := { s.flags with busySample := true }, cnt := { s.cnt with polls := s.cnt.polls + 1 } }

/-- The state after a wait of `m` busy polls from the poll line, at the test of the sample. -/
def State.waited (s : State) (m : Nat) : State := { s with
  pc := ⟨.waitIdle, 2⟩, hist := s.hist ++ waitEvents m, flags := { s.flags with busySample := false },
  cnt := { s.cnt with polls := s.cnt.polls + m } }

section Wait

variable {P : State → Prop} {k k' m : Nat} {s : State} (hact : s.flags.active = true) (hpc : s.pc = ⟨.waitIdle, 1⟩)

include hact hpc

theorem busyPoll_runs (hP : P s) : Runs P k s [⟨.pinRead, .level .high⟩] 15 s.busyPolled := by
  have hpoll := runs_ask (k := k) .high hact (line_poll hpc) hP
  refine hpoll.trans ((runs_silent (line_testHigh (by simp [hpc]) (by simp [Level.toBool])) rfl rfl rfl rfl).copy rfl ?_)
  simp [State.busyPolled, State.replied, answered, hpc, okReply, State.record, State.setHist, State.advance, State.setPc,
    State.setFlags, Level.toBool]

theorem busyRound_runs (hpolls : pollsExhausted s = false) (hP : ∀ u, Waiting s u → P u) :
    Runs P k s [⟨.pinRead, .level .high⟩, ⟨.delay 200, .ok⟩] k' s.busyRound := by
  have hdelay : Runs P 15 s.busyPolled [⟨.delay 200, .ok⟩] settleFuel _ :=
    runs_ask .low hact (line_pollDelay rfl hpolls) (hP _
      ⟨rfl, rfl, by simp [State.busyPolled], runningRoutine_congr s.pc ⟨.waitIdle, 3⟩ (by rw [hpc]) s.rs⟩)
  have hagain : Runs P settleFuel (s.busyPolled.replied (.delay 200) .low) [] 15 s.busyRound := by
    refine (runs_silent (line_pollAgain (by simp [State.busyPolled])) rfl rfl rfl rfl).copy rfl ?_
    simp [State.busyPolled, State.busyRound, State.replied, answered, okReply, State.record, State.setHist, State.goto, State.advance,
      State.setPc, countPoll, State.setCnt]
  have hasks : Runs P 15 s.busyRound [] k' s.busyRound :=
    runs_of_settle ((settle_of_ask (line_poll rfl) 15).trans (settle_of_ask (line_poll rfl) k').symm) rfl rfl rfl rfl
  exact ((busyPoll_runs hact hpc (hP s (.refl s))).trans hdelay).trans (hagain.trans hasks)

end Wait

theorem pollsExhausted_of_lt {s : State} {m : Nat} (h : ∀ N, s.cfg.busyTimeoutPolls = some N → s.cnt.polls + (m + 1) < N) :
    pollsExhausted s = false := by
  unfold pollsExhausted
  split
  · rfl
  · rename_i N hN
    have := h N hN
    simp only [decide_eq_false_iff_not]
    omega

theorem busyEvents_succ (m : Nat) : busyEvents (m + 1) = [⟨.pinRead, .level .high⟩, ⟨.delay 200, .ok⟩] ++ busyEvents m := by
  simp [busyEvents, List.replicate_succ]

theorem busyEvents_length (m : Nat) : (busyEvents m).length = 2 * m := by
  induction m with
  | zero => rfl
  | succ m ih => rw [busyEvents_succ, List.length_append, ih, List.length_cons, List.length_singleton]; omega

theorem waitEvents_eq (m : Nat) : waitEvents m = busyEvents m ++ [⟨.pinRead, .level .low⟩] := by
  induction m with
  | zero => rfl
  | succ m ih => rw [waitEvents, ih, busyEvents_succ]; rfl

/-- The state after `m` busy polls with their delays. -/
def State.busyRounds (s : State) : Nat → State
  | 0 => s
  | m + 1 => s.busyRound.busyRounds m

theorem busyRounds_eq (s : State) (m : Nat) (hpc : s.pc = ⟨.waitIdle, 1⟩) : s.busyRounds m = { s with
    hist := s.hist ++ busyEvents m, cnt := { s.cnt with polls := s.cnt.polls + m },
    flags := { s.flags with busySample := (s.busyRounds m).flags.busySample } } := by
  induction m generalizing s with
  | zero => simp [State.busyRounds, busyEvents]
  | succ m ih =>
    rw [State.busyRounds, ih s.busyRound rfl, busyEvents_succ]
    simp [State.busyRound, hpc, Nat.add_comm 1, Nat.add_assoc]

theorem busyRounds_runs {P : State → Prop} {k k' m : Nat} {s : State} (hact : s.flags.active = true) (hpc : s.pc = ⟨.waitIdle, 1⟩)
    (hpolls : 0 < m → ∀ N, s.cfg.busyTimeoutPolls = some N → s.cnt.polls + m < N) (hP : ∀ u, Waiting s u → P u) :
    Runs P k s (busyEvents m) k' (s.busyRounds m) := by
  induction m generalizing s k with
  | zero => exact runs_of_settle ((settle_of_ask (line_poll hpc) k).trans (settle_of_ask (line_poll hpc) k').symm) rfl rfl rfl rfl
  | succ m ih =>
    rw [busyEvents_succ]
    have hround : Waiting s s.busyRound :=
      ⟨rfl, rowsSent_congr rfl rfl, by simp [State.busyRound], runningRoutine_congr s.pc ⟨.waitIdle, 1⟩ (by rw [hpc]) s.rs⟩
    refine (busyRound_runs (k' := 15) hact hpc (pollsExhausted_of_lt (hpolls (Nat.succ_pos m))) hP).trans
      (ih hact rfl (fun _ N hN => ?_) fun u hu => hP u (hround.trans hu))
    have := hpolls (Nat.succ_pos m) N hN
    show s.cnt.polls + 1 + m < N
    omega

theorem waited_runs {P : State → Prop} {k m : Nat} {s : State} (hact : s.flags.active = true) (hpc : s.pc = ⟨.waitIdle, 1⟩)
    (hpolls : 0 < m → ∀ N, s.cfg.busyTimeoutPolls = some N → s.cnt.polls + m < N) (hP : ∀ u, Waiting s u → P u) :
    Runs P k s (waitEvents m) settleFuel (s.waited m) := by
  have heq := busyRounds_eq s m hpc
  have hround : Waiting s (s.busyRounds m) := by
    rw [heq]
    exact ⟨rfl, rowsSent_congr rfl rfl, by simp, rfl⟩
  have hpc' : (s.busyRounds m).pc = ⟨.waitIdle, 1⟩ := by rw [heq]; exact hpc
  have hpoll := runs_ask (k := 15) .low (by rw [heq]; exact hact) (line_poll hpc') (hP _ hround)
  rw [waitEvents_eq]
  refine (busyRounds_runs hact hpc hpolls hP).trans (hpoll.copy rfl ?_)
  rw [heq]
  simp [State.waited, State.replied, answered, hpc, okReply, State.record, State.setHist, State.advance, State.setPc, State.setFlags,
    Level.toBool, waitEvents_eq]

end Sys2Proof.Machine

namespace Sys2Proof.Proofs

open Sys2Proof.Machine Sys2Proof.Safety

/-- Polls that read `HIGH`, and the delays between them. -/
theorem levels_busyEvents {s : State} {p m : Nat} (h : ∀ q, q < m → s.busyAt (p + 2 * q) = .high) : Levels s p (busyEvents m) := by
  induction m generalizing p with
  | zero => exact levels_nil s p
  | succ m ih =>
    rw [busyEvents_succ, levels_append]
    refine ⟨fun i e he => ?_, ih fun q hq => ?_⟩
    · rcases i with _ | _ | i
      · cases he
        rw [h 0 (Nat.succ_pos m)]
        rfl
      · cases he
        rfl
      · cases he
    · have := h (q + 1) (by omega)
      rwa [show p + 2 * (q + 1) = p + 2 + 2 * q by omega] at this

/-- Settles O33: every two requests of the wait lead back to the poll line, and no limit stops them. -/
theorem busyPanelHangs : Obligations.BusyPanelHangs := by
  intro s hact hpc hlimit hbusy n
  have hruns : Runs (fun _ => True) 0 s (busyEvents n) 0 (s.busyRounds n) :=
    busyRounds_runs hact hpc (fun _ N hN => by rw [hlimit] at hN; cases hN) fun _ _ => trivial
  have hanswers : Answers s (busyEvents n) := ⟨fun q _ => (hbusy q).1, levels_busyEvents fun q _ => (hbusy (2 * q)).2⟩
  have heq := busyRounds_eq s n hpc
  refine ⟨s.busyRounds n, ?_, ?_⟩
  · rw [← busyEvents_length]
    exact hruns.done hanswers 0
  · rw [heq]
    exact ⟨hact, hpc, rfl, rfl, rfl, rfl, rfl, rfl⟩

/-- Settles O34: `N` rounds of the wait, then the poll that uses up the limit. -/
theorem hardenedWaitRaises : Obligations.HardenedWaitRaises := by
  intro s N op hact hpc hpolls hlimit hop hquiet hbusy
  have hruns : Runs (fun _ => True) 0 s (busyEvents N) 0 (s.busyRounds N) :=
    busyRounds_runs hact hpc (fun _ M hM => by rw [hlimit] at hM; cases hM; omega) fun _ _ => trivial
  have hanswers : Answers s (busyEvents N) :=
    ⟨quiet_mono hquiet (by rw [busyEvents_length]; omega), levels_busyEvents fun q hq => hbusy (2 * q) (by omega)⟩
  have heq := busyRounds_eq s N hpc
  generalize s.busyRounds N = t at heq hruns
  have hlen : t.hist.length = s.hist.length + 2 * N := by rw [hruns.hist, List.length_append, busyEvents_length]
  have hact' : t.flags.active = true := by rw [heq]; exact hact
  have hpc' : t.pc = ⟨.waitIdle, 1⟩ := by rw [heq]; exact hpc
  have hf : t.failsAt t.hist.length = false := by
    rw [State.failsAt_congr hruns.env hruns.cfg, hlen]
    exact hquiet _ (by omega)
  have hhigh : t.busyAt t.hist.length = .high := by
    rw [State.busyAt_congr hruns.env, hlen]
    exact hbusy _ (by omega)
  have hexhausted : pollsExhausted t = true := by
    rw [heq]
    simp [pollsExhausted, hlimit, hpolls]
  have hend : t.polled.advance = { s with
      pc := ⟨.waitIdle, 3⟩, hist := s.hist ++ busyEvents N ++ [⟨.pinRead, .level .high⟩],
      cnt := { s.cnt with polls := N }, flags := { s.flags with busySample := true } } := by
    rw [State.polled, hhigh, heq]
    simp [State.record, State.setHist, State.setFlags, State.advance, State.setPc, hpc, hpolls, Level.toBool]
  have hcode : t.polled.advance.issuedCode = some op.code := issuedCode_of_runningRoutine (by
    rw [hend]
    exact (runningRoutine_congr s.pc ⟨.waitIdle, 3⟩ (by rw [hpc]) s.rs).trans hop)
  have hstep := (hruns.done hanswers 1).trans (run_succ (step_pollHigh_exhausted hact' hf hpc' hhigh hexhausted))
  rw [← busyEvents_length]
  refine hstep.trans ?_
  have hrows : rowsSent t.polled.advance = rowsSent s := by
    rw [hend]
    exact rowsSent_congr rfl rfl
  rw [hcode, raise_hardwareNeverIdle, hrows, hend]
  rfl

end Sys2Proof.Proofs

/-! ## Frames sent by the sequencer (R132, R133) -/

namespace Sys2Proof.Machine

open Sys2Proof.Safety

/-- The send routines, each with the level of `DC` it writes. -/
def sendRoutines : List (Routine × Level) := [(.sendCommand, .low), (.sendData, .high)]

/-- The lines of a send routine ask the requests of a frame. -/
theorem line_send {r : Routine} {d : Level} (h : (r, d) ∈ sendRoutines) {i : Nat} {q : Request} {s u : State}
    (hq : (requestsOfFrame ⟨d, s.tmp.tByte⟩)[i]? = some q) (hpc : u.pc = ⟨r, i⟩) (htmp : u.tmp = s.tmp) : line u = .ask q := by
  simp only [sendRoutines, List.mem_cons, Prod.mk.injEq, List.not_mem_nil, or_false] at h
  rcases h with ⟨rfl, rfl⟩ | ⟨rfl, rfl⟩ <;> rcases i with _ | _ | _ | _ | i <;> cases hq <;>
    simp [line, hpc, sendCommandLine, sendDataLine, htmp]

/-- The state of a send routine after `n` of its first three requests. -/
theorem repliesTo_send {r : Routine} {d : Level} (h : (r, d) ∈ sendRoutines) {s : State} (hpc : s.pc = ⟨r, 0⟩) :
    repliesTo [.pinWrite .dc d, .pinWrite .cs .low, .spiWrite s.tmp.tByte] s = { s with
      pc := ⟨r, 3⟩, pins := { s.pins with dc := .driven d, cs := .driven .low },
      hist := s.hist ++ [⟨.pinWrite .dc d, .ok⟩, ⟨.pinWrite .cs .low, .ok⟩, ⟨.spiWrite s.tmp.tByte, .ok⟩] } := by
  simp only [sendRoutines, List.mem_cons, Prod.mk.injEq, List.not_mem_nil, or_false] at h
  rcases h with ⟨rfl, rfl⟩ | ⟨rfl, rfl⟩ <;>
    simp [repliesTo, State.replied, answered, hpc, okReply, State.record, State.setHist, State.setPins, State.advance, State.setPc,
      Pins.drive]

end Sys2Proof.Machine

namespace Sys2Proof.Proofs

open Sys2Proof.Machine Sys2Proof.Safety

/-- Settles O32: the first three lines of a send routine ask the requests of a frame but for its last. -/
theorem sendFrames : Obligations.SendFrames := by
  intro s r d hr hact hpc hquiet
  have hruns : Runs (fun _ => True) 0 s (okEvents [.pinWrite .dc d, .pinWrite .cs .low, .spiWrite s.tmp.tByte]) settleFuel _ :=
    runs_asks hact hpc (by simp) (fun i q hq u hu htmp => line_send hr (i := i) (s := s) ?_ (by simpa using hu) htmp) (fun _ _ => trivial)
      (by simp)
  · have hline : line (repliesTo [.pinWrite .dc d, .pinWrite .cs .low, .spiWrite s.tmp.tByte] s) = .ask (.pinWrite .cs .high) :=
      line_send hr (i := 3) (s := s) rfl (by rw [repliesTo_send hr hpc]) (by rw [repliesTo_send hr hpc])
    refine ⟨_, ?_, repliesTo_send hr hpc, hline⟩
    have hdone := hruns.done ⟨quiet_mono hquiet (Nat.le_succ 3), levels_okEvents (by simp)⟩ 0
    exact hdone.trans (resume_of_settle (settle_of_ask hline _))
  · rcases i with _ | _ | _ | i <;> cases hq <;> rfl

end Sys2Proof.Proofs

/-! ### A frame sent from a routine -/

namespace Sys2Proof.Machine

open Sys2Proof.Safety

/-- The state after a frame, at the next line of the routine. -/
def State.frameSent (s : State) (dc : Level) (b : Byte) (p : Panel) : State := { s with
  pc := ⟨s.pc.routine, s.pc.step + 1⟩, hist := s.hist ++ frameEvents ⟨dc, b⟩,
  pins := { s.pins with dc := .driven dc, cs := .driven .high }, tmp := { s.tmp with tByte := b }, panel := p }

/-- The state after a command frame. -/
def State.commandSent (s : State) (k : PacketKind) : State :=
  s.frameSent .low (commandByte s.cfg k) (s.panel.begin k s.shadow)

/-- The state after a data frame. -/
def State.dataSent (s : State) (b : Byte) : State := s.frameSent .high b (s.panel.data s.shadow b)

/-- Within a send routine the ghost panel waits. -/
theorem waiting_send {r : Routine} {d : Level} (h : (r, d) ∈ sendRoutines) {s : State} (hpc : s.pc = ⟨r, 0⟩) {i : Nat} (hi : i < 4) :
    Waiting s (repliesTo ((requestsOfFrame ⟨d, s.tmp.tByte⟩).take i) s) := by
  simp only [sendRoutines, List.mem_cons, Prod.mk.injEq, List.not_mem_nil, or_false] at h
  rcases h with ⟨rfl, rfl⟩ | ⟨rfl, rfl⟩ <;> rcases i with _ | _ | _ | _ | i <;> try omega
  all_goals
    simp [Waiting, requestsOfFrame, repliesTo, State.replied, answered, hpc]
    try exact ⟨rowsSent_congr (by simp) (by simp), runningRoutine_congr _ _ (by simp) _⟩

/-- The four requests of a send routine. -/
theorem send_runs {P : State → Prop} {k : Nat} {r : Routine} {d : Level} {s : State} (hr : (r, d) ∈ sendRoutines)
    (hact : s.flags.active = true) (hpc : s.pc = ⟨r, 0⟩) (hP : ∀ u, Waiting s u → P u) :
    Runs P k s (frameEvents ⟨d, s.tmp.tByte⟩) settleFuel (repliesTo (requestsOfFrame ⟨d, s.tmp.tByte⟩) s) :=
  runs_asks hact hpc (by simp [requestsOfFrame]) (fun i q hq u hu htmp => line_send hr hq (by simpa using hu) htmp)
    (fun i hi => hP _ (waiting_send hr hpc hi)) (by simp [requestsOfFrame])

theorem line_sent {r : Routine} {d : Level} (h : (r, d) ∈ sendRoutines) {s : State} (hpc : s.pc = ⟨r, 4⟩) : line s = .ret s := by
  simp only [sendRoutines, List.mem_cons, Prod.mk.injEq, List.not_mem_nil, or_false] at h
  rcases h with ⟨rfl, rfl⟩ | ⟨rfl, rfl⟩ <;> simp [line, hpc, sendCommandLine, sendDataLine]

/-- A send routine, from its first line to its return; `v` is the state it returns. -/
theorem called_send_runs {P : State → Prop} {k n : Nat} {q r : Routine} {d : Level} {s v : State} (hq : (q, d) ∈ sendRoutines)
    (hact : s.flags.active = true) (hpc : s.pc = ⟨q, 0⟩)
    (hv : repliesTo (requestsOfFrame ⟨d, s.tmp.tByte⟩) s = (v.setRs (⟨r, n + 1⟩ :: v.rs)).setPc ⟨q, 4⟩)
    (hvpc : v.pc = ⟨r, n + 1⟩) (hP : ∀ u, Waiting s u → P u) :
    Runs P k s (frameEvents ⟨d, s.tmp.tByte⟩) 15 (afterCall r n v) := by
  have hsend := send_runs (k := k) hq hact hpc hP
  rw [hv] at hsend
  have hret : Runs P settleFuel _ [] 15 _ :=
    runs_return (line_sent hq (s := (v.setRs (⟨r, n + 1⟩ :: v.rs)).setPc ⟨q, 4⟩) rfl) rfl rfl rfl rfl rfl
  refine (hsend.trans hret).copy (by simp) ?_
  simp [returnTo, State.setRs, State.setPc, ← hvpc]

/-- A wait of `m` busy polls does not use up the limit. A wait that meets none does not look at it, not even at a limit of 0. -/
def PollsAllowed (c : Config) (m : Nat) : Prop := 0 < m → WithinPolls c m

theorem pollsAllowed_of_within {c : Config} {m : Nat} (h : WithinPolls c m) : PollsAllowed c m := fun _ => h

theorem pollsAllowed_zero (c : Config) : PollsAllowed c 0 := nofun

section FrameRuns

variable {P : State → Prop} {k n : Nat} {r : Routine} {s : State} (hact : s.flags.active = true) (hpc : s.pc = ⟨r, n⟩)

include hact hpc

/-- A command frame, from the line that calls SEND_COMMAND. -/
theorem command_runs {c : PacketKind} (hl : line s = .silent (s.callCommand c)) (hP : ∀ u, Waiting (s.callCommand c) u → P u) :
    Runs P (k + 1) s (frameEvents ⟨.low, commandByte s.cfg c⟩) 15 (afterCall r n (s.commandSent c)) := by
  refine (runs_silent hl rfl rfl rfl rfl).trans
    (called_send_runs (s := s.callCommand c) (q := .sendCommand) (by decide) hact rfl ?_
      (by simp [State.commandSent, State.frameSent, hpc]) hP)
  simp [requestsOfFrame, repliesTo, State.replied, answered, State.callCommand, State.call, okReply, State.record, State.setHist,
    State.setPins, State.advance, State.setPc, Pins.drive, State.commandSent, State.frameSent, frameEvents, State.setRs, State.setByte,
    State.setTmp, State.setPanel, hpc]

/-- A data frame, from the line that calls SEND_DATA. -/
theorem data_runs {b : Byte} (hl : line s = .silent (s.callData b)) (hP : ∀ u, Waiting (s.callData b) u → P u) :
    Runs P (k + 1) s (frameEvents ⟨.high, b⟩) 15 (afterCall r n (s.dataSent b)) := by
  refine (runs_silent hl rfl rfl rfl rfl).trans
    (called_send_runs (s := s.callData b) (q := .sendData) (by decide) hact rfl ?_ (by simp [State.dataSent, State.frameSent, hpc]) hP)
  simp [requestsOfFrame, repliesTo, State.replied, answered, State.callData, State.call, okReply, State.record, State.setHist,
    State.setPins, State.advance, State.setPc, Pins.drive, State.dataSent, State.frameSent, frameEvents, State.setRs, State.setByte,
    State.setTmp, State.setPanel, frameReceived, hpc]

/-- A wait of `m` busy polls, from the line that calls WAIT_IDLE. -/
theorem wait_runs {m : Nat} (hl : line s = .silent (s.call .waitIdle)) (hafter : ∀ u, afterCall r n u = u) (hpolls : PollsAllowed s.cfg m)
    (hP : ∀ u, Waiting (s.call .waitIdle) u → P u) :
    Runs P (k + 2) s (waitEvents m) 15 { s with
      pc := ⟨r, n + 1⟩, hist := s.hist ++ waitEvents m, flags := { s.flags with busySample := false },
      cnt := { s.cnt with polls := m } } := by
  have hcall : Runs P (k + 2) s [] (k + 1) (s.call .waitIdle) := runs_silent hl rfl rfl rfl rfl
  have hzero : Runs P (k + 1) (s.call .waitIdle) [] k _ :=
    runs_silent (t := ((s.call .waitIdle).setCnt { s.cnt with polls := 0 }).advance) rfl rfl rfl rfl rfl
  have hwait := waited_runs (P := P) (k := k) (m := m) (s := ((s.call .waitIdle).setCnt { s.cnt with polls := 0 }).advance) hact rfl
    (fun hm N hN => by simpa using hpolls hm N hN) (fun u hu => hP u (Waiting.trans ⟨rfl, rowsSent_congr rfl rfl, Nat.le_refl _, rfl⟩ hu))
  have hret : Runs P settleFuel _ [] 15 _ :=
    runs_return (line_testLow (s := State.waited (((s.call .waitIdle).setCnt { s.cnt with polls := 0 }).advance) m) rfl rfl) rfl rfl rfl
      rfl rfl
  refine (hcall.trans (hzero.trans (hwait.trans hret))).copy (by simp) ?_
  simp [returnTo, hpc, hafter, State.waited, State.call, State.setCnt, State.advance, State.setRs, State.setPc]

end FrameRuns

end Sys2Proof.Machine

/-! ## Frames one after another (R132, R133): SET_WINDOW, SET_CURSOR, TURN_ON_DISPLAY, POWER_DOWN -/

namespace Sys2Proof.Machine

open Sys2Proof.Safety

/-- A call of a send routine: with the command byte of a packet kind, or with a data byte. -/
inductive Call
  | command (k : PacketKind)
  | data (b : Byte)

/-- The state in the send routine, at its first line. -/
def Call.enter : Call → State → State
  | .command k, s => s.callCommand k
  | .data b, s => s.callData b

/-- The state after its frame. -/
def Call.sent : Call → State → State
  | .command k, s => s.commandSent k
  | .data b, s => s.dataSent b

/-- The frame it sends. -/
def Call.frame (c : Config) : Call → Frame
  | .command k => ⟨.low, commandByte c k⟩
  | .data b => ⟨.high, b⟩

/-- The state after the frames that the lines of `r` from number `n` on send. -/
def sendAll (r : Routine) : Nat → List Call → State → State
  | _, [], s => s
  | n, c :: cs, s => sendAll r (n + 1) cs (afterCall r n (c.sent s))

/-- The events of the frames. -/
def callEvents (c : Config) (cs : List Call) : List Event := (cs.map (Call.frame c)).flatMap frameEvents

/-- The configuration and the address parameters are the same. -/
structure SameParams (s u : State) : Prop where
  cfg : u.cfg = s.cfg
  tX0 : u.tmp.tX0 = s.tmp.tX0
  tY0 : u.tmp.tY0 = s.tmp.tY0
  tX1 : u.tmp.tX1 = s.tmp.tX1
  tY1 : u.tmp.tY1 = s.tmp.tY1

theorem SameParams.refl (s : State) : SameParams s s := ⟨rfl, rfl, rfl, rfl, rfl⟩

theorem SameParams.trans {s t u : State} (h : SameParams s t) (h' : SameParams t u) : SameParams s u :=
  ⟨h'.cfg.trans h.cfg, h'.tX0.trans h.tX0, h'.tY0.trans h.tY0, h'.tX1.trans h.tX1, h'.tY1.trans h.tY1⟩

theorem afterCall_tmp (r : Routine) (n : Nat) (s : State) : (afterCall r n s).tmp = s.tmp := by rw [afterCall_eq]

theorem Call.sent_sameParams (c : Call) (r : Routine) (n : Nat) (s : State) : SameParams s (afterCall r n (c.sent s)) := by
  constructor <;> first | rw [afterCall_cfg] | rw [afterCall_tmp]
  all_goals cases c <;> rfl

theorem Call.sent_pc (c : Call) (s : State) : (c.sent s).pc = ⟨s.pc.routine, s.pc.step + 1⟩ := by cases c <;> rfl

theorem Call.sent_flags (c : Call) (s : State) : (c.sent s).flags = s.flags := by cases c <;> rfl

theorem call_runs {P : State → Prop} {k n : Nat} {r : Routine} {c : Call} {s : State} (hact : s.flags.active = true)
    (hpc : s.pc = ⟨r, n⟩) (hl : line s = .silent (c.enter s)) (hP : ∀ u, Waiting (c.enter s) u → P u) :
    Runs P (k + 1) s (frameEvents (c.frame s.cfg)) 15 (afterCall r n (c.sent s)) := by
  cases c with
  | command c => exact command_runs hact hpc hl hP
  | data b => exact data_runs hact hpc hl hP

/-- Lines that send frames, one after another. -/
theorem sends_runs {P : State → Prop} {k n : Nat} {r : Routine} {cs : List Call} {s : State} (hact : s.flags.active = true)
    (hpc : s.pc = ⟨r, n⟩)
    (hlines : ∀ i c, cs[i]? = some c → ∀ u : State, u.pc = ⟨r, n + i⟩ → SameParams s u → line u = .silent (c.enter u))
    (hP : ∀ i (c : Call), cs[i]? = some c → ∀ u, Waiting (c.enter (sendAll r n (cs.take i) s)) u → P u) (hne : cs ≠ []) :
    Runs P (k + 1) s (callEvents s.cfg cs) 15 (sendAll r n cs s) := by
  induction cs generalizing s n k with
  | nil => exact absurd rfl hne
  | cons c cs ih =>
    have hfirst := call_runs (k := k) hact hpc (hlines 0 c rfl s hpc (.refl s)) (hP 0 c rfl)
    by_cases hlast : cs = []
    · subst hlast
      exact hfirst.copy (by simp [callEvents]) rfl
    · have hparams := c.sent_sameParams r n s
      have hrest := ih (s := afterCall r n (c.sent s)) (n := n + 1) (k := 14) (by rw [afterCall_flags, Call.sent_flags, hact])
        (by rw [afterCall_pc, Call.sent_pc, hpc]) (fun i c' hc' u hu hsame => ?_) (fun i c' hc' => hP (i + 1) c' hc') hlast
      · rw [hparams.cfg] at hrest
        exact (hfirst.trans hrest).copy (by simp [callEvents]) rfl
      · exact hlines (i + 1) c' hc' u (by rw [hu, Nat.add_assoc, Nat.add_comm 1]) (hparams.trans hsame)

/-! ### The frames of the routines -/

/-- The frames of SET_WINDOW (R170). -/
def windowCalls (t : Params) : List Call :=
  [.command .setRamXStartEnd, .data (xb t.tX0), .data (xb t.tX1), .command .setRamYStartEnd, .data (lo8 t.tY0), .data (hi8 t.tY0),
    .data (lo8 t.tY1), .data (hi8 t.tY1)]

/-- The frames of SET_CURSOR (R171). -/
def cursorCalls (t : Params) : List Call :=
  [.command .setRamXCounter, .data (xb t.tX0), .command .setRamYCounter, .data (lo8 t.tY0), .data (hi8 t.tY0)]

/-- The frames of TURN_ON_DISPLAY up to the master activation (R180). -/
def updateCalls : List Call := [.command .displayUpdateControl2, .data Config.duc2Value]

/-- The frames of TURN_ON_DISPLAY from the master activation on (R180). -/
def activateCalls : List Call := [.command .masterActivation, .command .terminateFrameRw]

/-- The frames of POWER_DOWN (R201). -/
def sleepCalls : List Call := [.command .deepSleepMode, .data Config.deepSleepValue]

theorem line_window {s u : State} {i : Nat} {c : Call} (hc : (windowCalls s.tmp)[i]? = some c) (hpc : u.pc = ⟨.op .setWindow, i⟩)
    (hsame : SameParams s u) : line u = .silent (c.enter u) := by
  rcases i with _ | _ | _ | _ | _ | _ | _ | _ | i <;> cases hc <;>
    simp [line, hpc, setWindowLine, Call.enter, hsame.tX0, hsame.tX1, hsame.tY0, hsame.tY1]

theorem line_cursor {s u : State} {i : Nat} {c : Call} (hc : (cursorCalls s.tmp)[i]? = some c) (hpc : u.pc = ⟨.op .setCursor, i⟩)
    (hsame : SameParams s u) : line u = .silent (c.enter u) := by
  rcases i with _ | _ | _ | _ | _ | i <;> cases hc <;> simp [line, hpc, setCursorLine, Call.enter, hsame.tX0, hsame.tY0]

theorem line_update {u : State} {i : Nat} {c : Call} (hc : updateCalls[i]? = some c) (hpc : u.pc = ⟨.op .turnOnDisplay, i⟩) :
    line u = .silent (c.enter u) := by
  rcases i with _ | _ | i <;> cases hc <;> simp [line, hpc, turnOnDisplayLine, Call.enter]

theorem line_activate {u : State} {i : Nat} {c : Call} (hc : activateCalls[i]? = some c) (hpc : u.pc = ⟨.op .turnOnDisplay, 2 + i⟩) :
    line u = .silent (c.enter u) := by
  rcases i with _ | _ | i <;> cases hc <;> simp [line, hpc, turnOnDisplayLine, Call.enter]

theorem line_sleep {u : State} {i : Nat} {c : Call} (hc : sleepCalls[i]? = some c) (hpc : u.pc = ⟨.op .powerDown, i⟩) :
    line u = .silent (c.enter u) := by
  rcases i with _ | _ | i <;> cases hc <;> simp [line, hpc, powerDownLine, Call.enter]

/-! ### SET_WINDOW -/

/-- The state at the end of SET_WINDOW's frames, with the ghost panel `p`. -/
def State.windowSet (s : State) (p : Panel) : State := { s with
  pc := ⟨.op .setWindow, 8⟩, hist := s.hist ++ windowEvents s.cfg s.tmp.tX0 s.tmp.tY0 s.tmp.tX1 s.tmp.tY1,
  pins := { s.pins with dc := .driven .high, cs := .driven .high }, tmp := { s.tmp with tByte := hi8 s.tmp.tY1 },
  shadow := { s.shadow with winXs := xb s.tmp.tX0, winXe := xb s.tmp.tX1, winYs := s.tmp.tY0, winYe := s.tmp.tY1, winValid := true },
  panel := p }

theorem sendAll_window {s : State} (hpc : s.pc = ⟨.op .setWindow, 0⟩) :
    sendAll (.op .setWindow) 0 (windowCalls s.tmp) s =
      s.windowSet (sendAll (.op .setWindow) 0 (windowCalls s.tmp) s).panel := by
  simp [sendAll, windowCalls, Call.sent, afterCall, setWindowAfter, State.commandSent, State.dataSent, State.frameSent, State.setShadow,
    noteWindow, State.setPanel, State.windowSet, hpc, windowEvents, packetEvents, packetFrames, commandByte]

theorem window_runs {k : Nat} {s : State} (hact : s.flags.active = true) (hpc : s.pc = ⟨.op .setWindow, 0⟩) :
    Runs (fun _ => True) (k + 1) s (windowEvents s.cfg s.tmp.tX0 s.tmp.tY0 s.tmp.tX1 s.tmp.tY1) 15
      (s.windowSet (sendAll (.op .setWindow) 0 (windowCalls s.tmp) s).panel) := by
  refine (sends_runs hact hpc (fun i c hc u hu hsame => line_window hc (by simpa using hu) hsame) (fun _ _ _ _ _ => trivial)
    (by simp [windowCalls])).copy ?_ (sendAll_window hpc).symm
  simp [callEvents, windowCalls, Call.frame, windowEvents, packetEvents, packetFrames, commandByte]

/-! ### What the glass shows -/

theorem Call.sent_shown {c : Call} {s : State} (hc : ∀ k, c = .command k → k ≠ .masterActivation) :
    (c.sent s).panel.shown = s.panel.shown := by
  cases c with
  | command k => exact Panel.begin_shown _ _ _ (hc k rfl)
  | data b => exact Panel.data_shown _ _ _

theorem sendAll_shown {r : Routine} {n : Nat} {cs : List Call} {s : State} (hcs : ∀ k, .command k ∈ cs → k ≠ .masterActivation) :
    (sendAll r n cs s).panel.shown = s.panel.shown := by
  induction cs generalizing n s with
  | nil => rfl
  | cons c cs ih =>
    rw [sendAll, ih fun k hk => hcs k (List.mem_cons_of_mem _ hk), afterCall_shown]
    exact Call.sent_shown fun k hk => hcs k (by rw [hk]; exact List.mem_cons_self)

/-! ### SET_CURSOR -/

/-- The state after SET_CURSOR's frames and a wait of `m` busy polls, with the ghost panel `p`. -/
def State.cursorSet (s : State) (m : Nat) (p : Panel) : State := { s with
  pc := ⟨.op .setCursor, 6⟩, hist := s.hist ++ cursorEvents s.cfg s.tmp.tX0 s.tmp.tY0 m,
  pins := { s.pins with dc := .driven .high, cs := .driven .high }, tmp := { s.tmp with tByte := hi8 s.tmp.tY0 },
  shadow := { s.shadow with curX := xb s.tmp.tX0, curY := s.tmp.tY0, curValid := true },
  flags := { s.flags with busySample := false }, cnt := { s.cnt with polls := m }, panel := p }

/-- The state after SET_CURSOR's frames, before the wait. -/
def State.cursorSent (s : State) : State := sendAll (.op .setCursor) 0 (cursorCalls s.tmp) s

theorem cursorSent_eq {s : State} (hpc : s.pc = ⟨.op .setCursor, 0⟩) : s.cursorSent = { s with
    pc := ⟨.op .setCursor, 5⟩,
    hist := s.hist ++ packetEvents s.cfg.opSetRamXCounter [xb s.tmp.tX0] ++
      packetEvents s.cfg.opSetRamYCounter [lo8 s.tmp.tY0, hi8 s.tmp.tY0],
    pins := { s.pins with dc := .driven .high, cs := .driven .high }, tmp := { s.tmp with tByte := hi8 s.tmp.tY0 },
    shadow := { s.shadow with curX := xb s.tmp.tX0, curY := s.tmp.tY0, curValid := true }, panel := s.cursorSent.panel } := by
  simp [State.cursorSent, sendAll, cursorCalls, Call.sent, afterCall, setCursorAfter, State.commandSent, State.dataSent, State.frameSent,
    State.setShadow, noteCursorX, noteCursor, State.setPanel, hpc, packetEvents, packetFrames, commandByte]

/-- SET_CURSOR from its first line to its last. `P` is what holds of the states of its frames and its wait. -/
theorem cursor_runs {P : State → Prop} {k m : Nat} {s : State} (hact : s.flags.active = true) (hpc : s.pc = ⟨.op .setCursor, 0⟩)
    (hpolls : PollsAllowed s.cfg m)
    (hframes : ∀ i (c : Call), (cursorCalls s.tmp)[i]? = some c →
      ∀ u, Waiting (c.enter (sendAll (.op .setCursor) 0 ((cursorCalls s.tmp).take i) s)) u → P u)
    (hwait : ∀ u, Waiting (s.cursorSent.call .waitIdle) u → P u) :
    Runs P (k + 1) s (cursorEvents s.cfg s.tmp.tX0 s.tmp.tY0 m) 15 (s.cursorSet m s.cursorSent.panel) := by
  have hsends : Runs P (k + 1) s (callEvents s.cfg (cursorCalls s.tmp)) 15 s.cursorSent :=
    sends_runs hact hpc (fun i c hc u hu hsame => line_cursor hc (by simpa using hu) hsame) hframes (by simp [cursorCalls])
  have hpc' : s.cursorSent.pc = ⟨.op .setCursor, 5⟩ := by rw [cursorSent_eq hpc]
  have hline : line s.cursorSent = .silent (s.cursorSent.call .waitIdle) := by simp [line, hpc', setCursorLine]
  refine (hsends.trans (wait_runs (m := m) (by rw [cursorSent_eq hpc]; exact hact) hpc' hline (fun _ => rfl)
    (by rw [cursorSent_eq hpc]; exact hpolls) hwait)).copy ?_ ?_
  · simp [callEvents, cursorCalls, Call.frame, cursorEvents, packetEvents, packetFrames, commandByte]
  · rw [cursorSent_eq hpc]
    simp [State.cursorSet, cursorEvents]

/-! ### TURN_ON_DISPLAY -/

/-- The state after the frames that prepare the refresh. -/
def State.updateSent (s : State) : State := sendAll (.op .turnOnDisplay) 0 updateCalls s

/-- The state after the frames that begin the refresh. -/
def State.activateSent (s : State) : State := sendAll (.op .turnOnDisplay) 2 activateCalls s

theorem updateSent_eq {s : State} (hpc : s.pc = ⟨.op .turnOnDisplay, 0⟩) : s.updateSent = { s with
    pc := ⟨.op .turnOnDisplay, 2⟩, hist := s.hist ++ packetEvents s.cfg.opDisplayUpdateControl2 [0xC4#8],
    pins := { s.pins with dc := .driven .high, cs := .driven .high }, tmp := { s.tmp with tByte := 0xC4#8 },
    panel := s.updateSent.panel } := by
  simp [State.updateSent, sendAll, updateCalls, Call.sent, afterCall, turnOnDisplayAfter, State.commandSent, State.dataSent,
    State.frameSent, hpc, packetEvents, packetFrames, commandByte, Config.duc2Value]

theorem activateSent_eq {s : State} (hpc : s.pc = ⟨.op .turnOnDisplay, 2⟩) : s.activateSent = { s with
    pc := ⟨.op .turnOnDisplay, 4⟩, life := .busy,
    hist := s.hist ++ packetEvents s.cfg.opMasterActivation [] ++ packetEvents s.cfg.opTerminateFrameRw [],
    pins := { s.pins with dc := .driven .low, cs := .driven .high }, tmp := { s.tmp with tByte := s.cfg.opTerminateFrameRw },
    panel := s.activateSent.panel } := by
  simp [State.activateSent, sendAll, activateCalls, Call.sent, afterCall, turnOnDisplayAfter, State.commandSent, State.frameSent, hpc,
    packetEvents, packetFrames, commandByte, State.setLife]

/-- The first packet of TURN_ON_DISPLAY. -/
theorem update_runs {P : State → Prop} {k : Nat} {s : State} (hact : s.flags.active = true) (hpc : s.pc = ⟨.op .turnOnDisplay, 0⟩)
    (hframes : ∀ i (c : Call), updateCalls[i]? = some c →
      ∀ u, Waiting (c.enter (sendAll (.op .turnOnDisplay) 0 (updateCalls.take i) s)) u → P u) :
    Runs P (k + 1) s (packetEvents s.cfg.opDisplayUpdateControl2 [0xC4#8]) 15 s.updateSent := by
  refine (sends_runs hact hpc (fun i c hc u hu _ => line_update hc (by simpa using hu)) hframes (by simp [updateCalls])).copy ?_ rfl
  simp [callEvents, updateCalls, Call.frame, packetEvents, packetFrames, commandByte, Config.duc2Value]

/-- The state after the wait of TURN_ON_DISPLAY, at its last line. -/
def State.refreshWaited (s : State) (m : Nat) : State := { s.activateSent with
  pc := ⟨.op .turnOnDisplay, 5⟩, hist := s.activateSent.hist ++ waitEvents m, flags := { s.flags with busySample := false },
  cnt := { s.cnt with polls := m } }

/-- The rest of TURN_ON_DISPLAY up to its last line. -/
theorem activate_runs {P : State → Prop} {k m : Nat} {s : State} (hact : s.flags.active = true) (hpc : s.pc = ⟨.op .turnOnDisplay, 2⟩)
    (hpolls : PollsAllowed s.cfg m)
    (hframes : ∀ i (c : Call), activateCalls[i]? = some c →
      ∀ u, Waiting (c.enter (sendAll (.op .turnOnDisplay) 2 (activateCalls.take i) s)) u → P u)
    (hwait : ∀ u, Waiting (s.activateSent.call .waitIdle) u → P u) :
    Runs P (k + 1) s (packetEvents s.cfg.opMasterActivation [] ++ packetEvents s.cfg.opTerminateFrameRw [] ++ waitEvents m) 15
      (s.refreshWaited m) := by
  have hsends : Runs P (k + 1) s (callEvents s.cfg activateCalls) 15 s.activateSent :=
    sends_runs hact hpc (fun i c hc u hu _ => line_activate hc hu) hframes (by simp [activateCalls])
  have hpc' : s.activateSent.pc = ⟨.op .turnOnDisplay, 4⟩ := by rw [activateSent_eq hpc]
  have hline : line s.activateSent = .silent (s.activateSent.call .waitIdle) := by simp [line, hpc', turnOnDisplayLine]
  refine (hsends.trans (wait_runs (m := m) (by rw [activateSent_eq hpc]; exact hact) hpc' hline (fun _ => rfl)
    (by rw [activateSent_eq hpc]; exact hpolls) hwait)).copy ?_ ?_
  · simp [callEvents, activateCalls, Call.frame, packetEvents, packetFrames, commandByte]
  · rw [State.refreshWaited, activateSent_eq hpc]

/-- The whole state at the last line of TURN_ON_DISPLAY, from its first. -/
theorem refreshWaited_eq {s : State} (m : Nat) (hpc : s.pc = ⟨.op .turnOnDisplay, 0⟩) : s.updateSent.refreshWaited m = { s with
    pc := ⟨.op .turnOnDisplay, 5⟩, life := .busy, hist := s.hist ++ refreshEvents s.cfg m,
    pins := { s.pins with dc := .driven .low, cs := .driven .high }, tmp := { s.tmp with tByte := s.cfg.opTerminateFrameRw },
    flags := { s.flags with busySample := false }, cnt := { s.cnt with polls := m }, panel := s.updateSent.activateSent.panel } := by
  rw [State.refreshWaited, activateSent_eq (by rw [updateSent_eq hpc]), updateSent_eq hpc]
  simp [refreshEvents]

/-- The ghost panel when TURN_ON_DISPLAY waits, if no refresh was under way before. -/
theorem refresh_panel {s : State} (hpc : s.pc = ⟨.op .turnOnDisplay, 0⟩) (hidle : s.panel.refreshing = false) :
    s.updateSent.panel.refreshing = false ∧ s.updateSent.panel.ram = s.panel.ram ∧
      s.updateSent.activateSent.panel.ram = s.panel.ram := by
  simp [State.updateSent, State.activateSent, sendAll, updateCalls, activateCalls, Call.sent, afterCall, turnOnDisplayAfter,
    State.commandSent, State.dataSent, State.frameSent, State.setLife, hpc, Panel.begin, Panel.meet, Panel.enter, Panel.data, hidle]

end Sys2Proof.Machine

namespace Sys2Proof.Proofs

open Sys2Proof.Machine Sys2Proof.Safety

theorem levels_frame (s : State) (p : Nat) (f : Frame) : Levels s p (frameEvents f) :=
  levels_okEvents (rs := requestsOfFrame f) (by simp [requestsOfFrame])

theorem levels_frames (s : State) (p : Nat) (fs : List Frame) : Levels s p (fs.flatMap frameEvents) := by
  induction fs generalizing p with
  | nil => exact levels_nil s p
  | cons f fs ih =>
    rw [List.flatMap_cons, levels_append]
    exact ⟨levels_frame s p f, ih _⟩

theorem levels_packet (s : State) (p : Nat) (cmd : Byte) (data : List Byte) : Levels s p (packetEvents cmd data) := levels_frames s p _

theorem levels_wait {s : State} {p m : Nat} (h : ∀ q, q < m → s.busyAt (p + 2 * q) = .high) (h' : s.busyAt (p + 2 * m) = .low) :
    Levels s p (waitEvents m) := by
  rw [waitEvents_eq, levels_append, busyEvents_length]
  refine ⟨levels_busyEvents h, fun i e he => ?_⟩
  cases i with
  | zero => cases he; rw [Nat.add_zero, h']; rfl
  | succ i => cases he

theorem packetEvents_length (cmd : Byte) (data : List Byte) : (packetEvents cmd data).length = 4 * (data.length + 1) := by
  have hframes (fs : List Frame) : (fs.flatMap frameEvents).length = 4 * fs.length := by
    induction fs with
    | nil => rfl
    | cons f fs ih =>
      rw [List.flatMap_cons, List.length_append, ih, frameEvents_length, List.length_cons]
      omega
  rw [packetEvents, hframes]
  simp [packetFrames]

theorem waitEvents_length (m : Nat) : (waitEvents m).length = 2 * m + 1 := by
  rw [waitEvents_eq, List.length_append, busyEvents_length]
  rfl

theorem windowEvents_length (c : Config) (x0 y0 x1 y1 : Word16) : (windowEvents c x0 y0 x1 y1).length = 32 := by
  simp [windowEvents, packetEvents_length]

theorem cursorEvents_length (c : Config) (x y : Word16) (m : Nat) : (cursorEvents c x y m).length = 21 + 2 * m := by
  simp only [cursorEvents, List.length_append, packetEvents_length, waitEvents_length, List.length_cons, List.length_nil]
  omega

theorem refreshEvents_length (c : Config) (m : Nat) : (refreshEvents c m).length = 17 + 2 * m := by
  simp only [refreshEvents, List.length_append, packetEvents_length, waitEvents_length, List.length_cons, List.length_nil]
  omega

theorem levels_window (s : State) (p : Nat) (c : Config) (x0 y0 x1 y1 : Word16) : Levels s p (windowEvents c x0 y0 x1 y1) := by
  rw [windowEvents, levels_append]
  exact ⟨levels_packet _ _ _ _, levels_packet _ _ _ _⟩

/-- The wait of SET_CURSOR comes after twenty requests. -/
theorem levels_cursor {s : State} {p m : Nat} (c : Config) (x y : Word16) (h : ∀ q, q < m → s.busyAt (p + 20 + 2 * q) = .high)
    (h' : s.busyAt (p + 20 + 2 * m) = .low) : Levels s p (cursorEvents c x y m) := by
  rw [cursorEvents, levels_append, levels_append, List.length_append, packetEvents_length, packetEvents_length]
  exact ⟨⟨levels_packet _ _ _ _, levels_packet _ _ _ _⟩, levels_wait h h'⟩

/-- The wait of TURN_ON_DISPLAY comes after sixteen requests. -/
theorem levels_refresh {s : State} {p m : Nat} (c : Config) (h : ∀ q, q < m → s.busyAt (p + 16 + 2 * q) = .high)
    (h' : s.busyAt (p + 16 + 2 * m) = .low) : Levels s p (refreshEvents c m) := by
  rw [refreshEvents, levels_append, levels_append, levels_append, List.length_append, List.length_append, packetEvents_length,
    packetEvents_length, packetEvents_length]
  exact ⟨⟨⟨levels_packet _ _ _ _, levels_packet _ _ _ _⟩, levels_packet _ _ _ _⟩, levels_wait h h'⟩

/-- Settles O39: the eight frames of SET_WINDOW. -/
theorem setWindowCompletes : Obligations.SetWindowCompletes := by
  intro s hact hlife hquiet
  have hruns := window_runs (k := 15) (s := accept .setWindow s) (by simp) (accept_pc .setWindow s)
  generalize hp : (sendAll (.op .setWindow) 0 (windowCalls (accept .setWindow s).tmp) (accept .setWindow s)).panel = p at hruns
  have hshown : p.shown = s.panel.shown := by
    rw [← hp, sendAll_shown (by simp [windowCalls]), accept_panel]
  obtain ⟨t, hexec, hactive, hhist, hrun⟩ := op_completes hact (by simp [acceptance, hlife, verdict]) hruns rfl rfl
    (windowEvents_length _ _ _ _ _) ⟨by rw [windowEvents_length]; exact hquiet, levels_window _ _ _ _ _ _ _⟩
  refine ⟨t, p, hexec, hactive, hhist, hrun.trans ?_, hshown⟩
  simp [State.windowSet, State.finish, State.setPc, State.setFlags, State.setRes, accept, sample, State.setRs, State.setTmp,
    flags_of_idle hact]

/-- Settles O40: the five frames of SET_CURSOR, then its wait. -/
theorem setCursorCompletes : Obligations.SetCursorCompletes := by
  intro s m hact hlife hquiet hbusy hpolls
  have hruns := cursor_runs (P := fun _ => True) (k := 15) (m := m) (s := accept .setCursor s) (by simp) (accept_pc .setCursor s)
    (by simpa using pollsAllowed_of_within hpolls) (fun _ _ _ _ _ => trivial) fun _ _ => trivial
  generalize hp : (accept .setCursor s).cursorSent.panel = p at hruns
  have hshown : p.shown = s.panel.shown := by
    rw [← hp, State.cursorSent, sendAll_shown (by simp [cursorCalls]), accept_panel]
  obtain ⟨t, hexec, hactive, hhist, hrun⟩ := op_completes (n := 20 + 2 * m) hact (by simp [acceptance, hlife, verdict]) hruns rfl rfl
    (by rw [cursorEvents_length]; omega) ⟨by rw [cursorEvents_length]; exact hquiet, levels_cursor _ _ _ hbusy.1 hbusy.2⟩
  refine ⟨t, p, hexec, hactive, hhist, ?_, hshown⟩
  rw [show 21 + 2 * m = 20 + 2 * m + 1 by omega]
  refine hrun.trans ?_
  simp [State.cursorSet, State.finish, State.setPc, State.setFlags, State.setRes, accept, sample, State.setRs, State.setTmp, hact]

/-- Settles O41: the three packets of TURN_ON_DISPLAY, its wait, and the glass after it. -/
theorem turnOnDisplayCompletes : Obligations.TurnOnDisplayCompletes := by
  intro s m hact hlife hquiet hbusy hpolls
  have hpc := accept_pc .turnOnDisplay s
  have hupdate := update_runs (P := fun _ => True) (k := 15) (s := accept .turnOnDisplay s) (by simp) hpc fun _ _ _ _ _ => trivial
  have hactivate := activate_runs (P := fun _ => True) (k := 14) (m := m) (s := (accept .turnOnDisplay s).updateSent)
    (by rw [updateSent_eq hpc]; simp) (by rw [updateSent_eq hpc]) (by rw [updateSent_eq hpc]; simpa using pollsAllowed_of_within hpolls)
    (fun _ _ _ _ _ => trivial) fun _ _ => trivial
  have hcfg : (accept .turnOnDisplay s).updateSent.cfg = s.cfg := by rw [updateSent_eq hpc]; simp
  have hruns : Runs (fun _ => True) settleFuel (accept .turnOnDisplay s) (refreshEvents s.cfg m) 15 _ :=
    (hupdate.trans hactivate).copy (by simp [refreshEvents, hcfg]) rfl
  have hstate := refreshWaited_eq m hpc
  have hpanel := refresh_panel hpc
  generalize (accept .turnOnDisplay s).updateSent.activateSent.panel = p at hstate hpanel
  generalize (accept .turnOnDisplay s).updateSent.refreshWaited m = u at hruns hstate
  have hline : line u = .ret (showRam (u.setLife .ready)) := by rw [hstate]; rfl
  obtain ⟨t, hexec, hactive, hhist, hrun⟩ := op_completes (n := 16 + 2 * m) hact (by simp [acceptance, hlife, verdict]) hruns hline
    (by rw [hstate]; simp [showRam]) (by rw [refreshEvents_length]; omega)
    ⟨by rw [refreshEvents_length]; exact hquiet, levels_refresh _ hbusy.1 hbusy.2⟩
  refine ⟨t, { p with shown := p.ram, refreshing := false }, hexec, hactive, hhist, ?_, fun hidle => ?_, rfl⟩
  · rw [show 17 + 2 * m = 16 + 2 * m + 1 by omega]
    refine hrun.trans ?_
    rw [hstate]
    simp [showRam, State.setLife, State.setPanel, State.finish, State.setPc, State.setFlags, State.setRes, accept, sample, State.setRs,
      hact, hlife]
  · obtain ⟨-, -, hram⟩ := hpanel (by simpa using hidle)
    rw [accept_panel] at hram
    exact ⟨hram, hram⟩

end Sys2Proof.Proofs

/-! ## POWER_DOWN and INIT (R151 to R153, R201) -/

namespace Sys2Proof.Machine

open Sys2Proof.Safety

/-! ### POWER_DOWN -/

/-- The state after POWER_DOWN's frames. -/
def State.sleepSent (s : State) : State := sendAll (.op .powerDown) 0 sleepCalls s

theorem sleepSent_eq {s : State} (hpc : s.pc = ⟨.op .powerDown, 0⟩) : s.sleepSent = { s with
    pc := ⟨.op .powerDown, 2⟩, hist := s.hist ++ packetEvents s.cfg.opDeepSleepMode [0x01#8],
    pins := { s.pins with dc := .driven .high, cs := .driven .high }, tmp := { s.tmp with tByte := 0x01#8 },
    panel := s.sleepSent.panel } := by
  simp [State.sleepSent, sendAll, sleepCalls, Call.sent, afterCall, State.commandSent, State.dataSent, State.frameSent, hpc, packetEvents,
    packetFrames, commandByte, Config.deepSleepValue]

/-- Deep sleep makes panel RAM unknown (U11; log entry 9). -/
theorem sleepSent_ram {s : State} : s.sleepSent.panel.ram = [] := by
  simp [State.sleepSent, sendAll, sleepCalls, Call.sent, afterCall, State.commandSent, State.dataSent, State.frameSent, Panel.begin,
    Panel.enter, Panel.data]

theorem powerDown_runs {k : Nat} {s : State} (hact : s.flags.active = true) (hpc : s.pc = ⟨.op .powerDown, 0⟩) :
    Runs (fun _ => True) (k + 1) s (packetEvents s.cfg.opDeepSleepMode [0x01#8] ++ [⟨.delay 2000, .ok⟩]) settleFuel
      (s.sleepSent.replied (.delay 2000) .low) := by
  have hsends : Runs (fun _ => True) (k + 1) s (callEvents s.cfg sleepCalls) 15 s.sleepSent :=
    sends_runs hact hpc (fun i c hc u hu _ => line_sleep hc (by simpa using hu)) (fun _ _ _ _ _ => trivial) (by simp [sleepCalls])
  have hpc' : s.sleepSent.pc = ⟨.op .powerDown, 2⟩ := by rw [sleepSent_eq hpc]
  have hline : line s.sleepSent = .ask (.delay 2000) := by simp [line, hpc', powerDownLine, Config.tSettle]
  refine (hsends.trans (runs_ask .low (by rw [sleepSent_eq hpc]; exact hact) hline trivial)).copy ?_ rfl
  simp [callEvents, sleepCalls, Call.frame, packetEvents, packetFrames, commandByte, Config.deepSleepValue, okReply]

end Sys2Proof.Machine

namespace Sys2Proof.Proofs

open Sys2Proof.Machine Sys2Proof.Safety

/-- Settles O50: the two frames of POWER_DOWN, then its delay. -/
theorem powerDownCompletes : Obligations.PowerDownCompletes := by
  intro s hact hlife hquiet
  have hpc := accept_pc .powerDown s
  have hruns := powerDown_runs (k := 15) (s := accept .powerDown s) (by simp) hpc
  have hstate := sleepSent_eq hpc
  have hram : (accept .powerDown s).sleepSent.panel.ram = [] := sleepSent_ram
  have hshown : (accept .powerDown s).sleepSent.panel.shown = s.panel.shown := by
    rw [State.sleepSent, sendAll_shown (by simp [sleepCalls]), accept_panel]
  generalize (accept .powerDown s).sleepSent.panel = p at hstate hram hshown
  generalize (accept .powerDown s).sleepSent = u at hruns hstate
  have hend : u.replied (.delay 2000) .low = { u with pc := ⟨.op .powerDown, 3⟩, hist := u.hist ++ [⟨.delay 2000, .ok⟩] } := by
    rw [hstate]
    simp [State.replied, answered, okReply, State.record, State.setHist, State.advance, State.setPc]
  rw [hend, hstate] at hruns
  obtain ⟨t, hexec, hactive, hhist, hrun⟩ := op_completes (n := 8) hact (by simp [acceptance, hlife, verdict]) hruns rfl
    (by simp [State.setLife]) (by simp [packetEvents_length])
    ⟨by simpa [packetEvents_length] using hquiet, (levels_append _ _ _ _).mpr
      ⟨levels_packet _ _ _ _, levels_okEvents (rs := [.delay 2000]) (by decide)⟩⟩
  refine ⟨t, p, hexec, hactive, hhist, hrun.trans ?_, hram, hshown⟩
  simp [State.setLife, State.finish, State.setPc, State.setFlags, State.setRes, accept, sample, State.setRs, flags_of_idle hact]

end Sys2Proof.Proofs

namespace Sys2Proof.Machine

open Sys2Proof.Safety

/-! ### A panel that was reset -/

/-- The panel was reset, and neither window nor cursor nor image has been sent since. -/
def Panel.Fresh (p : Panel) : Prop := p.ram = [] ∧ p.inWindow = false ∧ p.asleep = false ∧ p.refreshing = false

theorem Panel.reset_fresh (p : Panel) : p.reset.Fresh := ⟨rfl, rfl, rfl, rfl⟩

/-- The packets of INIT (R153). -/
def initPackets : List PacketKind :=
  [.driverOutputControl, .boosterSoftStart, .writeVcom, .setDummyLinePeriod, .setGateTime, .dataEntryMode, .writeLut]

theorem Panel.Fresh.begin {p : Panel} (h : p.Fresh) {k : PacketKind} (hk : k ∈ initPackets) (w : Shadow) : (p.begin k w).Fresh := by
  obtain ⟨hram, -, hawake, hidle⟩ := h
  simp only [initPackets, List.mem_cons, List.not_mem_nil, or_false] at hk
  rcases hk with rfl | rfl | rfl | rfl | rfl | rfl | rfl <;>
    simp [Panel.Fresh, Panel.begin, Panel.enter, Panel.meet_idle p _ hidle, hram, hawake, hidle]

theorem Panel.Fresh.data {p : Panel} (h : p.Fresh) (w : Shadow) (b : Byte) : (p.data w b).Fresh := by
  obtain ⟨hram, hout, hawake, hidle⟩ := h
  unfold Panel.data
  split <;> simp [Panel.Fresh, hram, hout, hawake, hidle]

theorem Call.sent_fresh {c : Call} {s : State} (h : s.panel.Fresh) (hc : ∀ k, c = .command k → k ∈ initPackets) :
    (c.sent s).panel.Fresh := by
  cases c with
  | command k => exact h.begin (hc k rfl) _
  | data b => exact h.data _ _

theorem sendAll_fresh {r : Routine} {n : Nat} {cs : List Call} {s : State} (h : s.panel.Fresh)
    (hr : ∀ m u, (afterCall r m u).panel = u.panel)
    (hcs : ∀ k, .command k ∈ cs → k ∈ initPackets) : (sendAll r n cs s).panel.Fresh := by
  induction cs generalizing n s with
  | nil => exact h
  | cons c cs ih =>
    refine ih (s := afterCall r n (c.sent s)) ?_ fun k hk => hcs k (List.mem_cons_of_mem _ hk)
    rw [hr]
    exact Call.sent_fresh h fun k hk => hcs k (by rw [hk]; exact List.mem_cons_self)

/-! ### RESET_SEQ -/

/-- The requests of RESET_SEQ (R151). -/
def resetRequests : List Request :=
  [.pinWrite .rst .high, .delay 200, .pinWrite .rst .low, .delay 5, .pinWrite .rst .high, .delay 200]

/-- The state after INIT's RESET_SEQ. -/
def State.resetDone (s : State) : State := { s with
  pc := ⟨.op .init, 1⟩, life := .reset, hist := s.hist ++ resetEvents, pins := { s.pins with rst := .driven .high },
  shadow := { s.shadow with winValid := false, curValid := false }, panel := s.panel.reset }

theorem reset_runs {k : Nat} {s : State} (hact : s.flags.active = true) (hpc : s.pc = ⟨.op .init, 0⟩) :
    Runs (fun _ => True) (k + 1) s resetEvents 15 s.resetDone := by
  have hcall : Runs (fun _ => True) (k + 1) s [] k (s.call .resetSeq) :=
    runs_silent (by simp [line, hpc, initLine]) rfl rfl rfl rfl
  have hasks : Runs (fun _ => True) k (s.call .resetSeq) (okEvents resetRequests) settleFuel _ :=
    runs_asks hact rfl (by decide) (fun i r hr u hu _ => by
      rcases i with _ | _ | _ | _ | _ | _ | i <;> cases hr <;>
        simp [line, hu, resetSeqLine, Config.tRstHigh1, Config.tRstLow, Config.tRstHigh2])
      (fun _ _ => trivial) (by decide)
  have hstate : repliesTo resetRequests (s.call .resetSeq) = { s with
      pc := ⟨.resetSeq, 6⟩, rs := ⟨.op .init, 1⟩ :: s.rs, hist := s.hist ++ resetEvents,
      pins := { s.pins with rst := .driven .high } } := by
    simp [repliesTo, resetRequests, State.replied, answered, State.call, okReply, State.record, State.setHist, State.setPins,
      State.advance, State.setPc, State.setRs, Pins.drive, hpc, resetEvents]
  rw [hstate] at hasks
  refine (hcall.trans (hasks.trans (runs_return rfl rfl rfl rfl rfl rfl))).copy rfl ?_
  simp [returnTo, afterCall, initAfter, forgetWindow, State.setShadow, State.setPanel, State.setRs, State.setPc, State.setLife,
    State.resetDone]

/-! ### The register packets -/

/-- The frames of INIT's register packets (R153). -/
def initCalls (c : Config) : List Call :=
  [.command .driverOutputControl, .data 0x27#8, .data 0x01#8, .data 0x00#8, .command .boosterSoftStart, .data c.booster0,
    .data c.booster1, .data c.booster2, .command .writeVcom, .data c.vcomValue, .command .setDummyLinePeriod, .data c.dummyLineValue,
    .command .setGateTime, .data c.gateTimeValue, .command .dataEntryMode, .data c.dataEntryValue]

/-- The events of INIT's register packets. -/
def registerEvents (c : Config) : List Event :=
  packetEvents c.opDriverOutputControl [0x27#8, 0x01#8, 0x00#8] ++
    packetEvents c.opBoosterSoftStart [c.booster0, c.booster1, c.booster2] ++ packetEvents c.opWriteVcom [c.vcomValue] ++
    packetEvents c.opSetDummyLinePeriod [c.dummyLineValue] ++ packetEvents c.opSetGateTime [c.gateTimeValue] ++
    packetEvents c.opDataEntryMode [c.dataEntryValue]

theorem line_init {u : State} {c : Call} {i : Nat} (hc : (initCalls u.cfg)[i]? = some c) (hpc : u.pc = ⟨.op .init, 1 + i⟩) :
    line u = .silent (c.enter u) := by
  rcases i with _ | _ | _ | _ | _ | _ | _ | _ | _ | _ | _ | _ | _ | _ | _ | _ | i <;> cases hc <;>
    simp [line, hpc, initLine, Call.enter] <;> rfl

/-- The state after INIT's register packets. -/
def State.registersSent (s : State) : State := sendAll (.op .init) 1 (initCalls s.cfg) s

theorem registersSent_eq {s : State} (hpc : s.pc = ⟨.op .init, 1⟩) : s.registersSent = { s with
    pc := ⟨.op .init, 17⟩, hist := s.hist ++ registerEvents s.cfg, pins := { s.pins with dc := .driven .high, cs := .driven .high },
    tmp := { s.tmp with tByte := s.cfg.dataEntryValue }, panel := s.registersSent.panel } := by
  simp [State.registersSent, sendAll, initCalls, Call.sent, afterCall, initAfter, State.commandSent, State.dataSent, State.frameSent, hpc,
    packetEvents, packetFrames, commandByte, registerEvents]

theorem registers_runs {k : Nat} {s : State} (hact : s.flags.active = true) (hpc : s.pc = ⟨.op .init, 1⟩) :
    Runs (fun _ => True) (k + 1) s (registerEvents s.cfg) 15 s.registersSent := by
  refine (sends_runs hact hpc (fun i c hc u hu hsame => line_init (by rw [hsame.cfg]; exact hc) hu) (fun _ _ _ _ _ => trivial)
    (by simp [initCalls])).copy ?_ rfl
  simp [callEvents, initCalls, Call.frame, packetEvents, packetFrames, commandByte, registerEvents]

theorem registersSent_fresh {s : State} (h : s.panel.Fresh) : s.registersSent.panel.Fresh := by
  refine sendAll_fresh h (fun m u => ?_) (by simp [initCalls, initPackets])
  simp only [afterCall, initAfter]
  split <;> rfl

/-! ### LOAD_LUT -/

/-- The state after one byte of the waveform table, at the loop's test again. -/
def State.lutByteSent (s : State) (b : Byte) : State := { s.dataSent b with
  pc := ⟨.loadLut, 2⟩, cnt := { s.cnt with k := s.cnt.k + 1 } }

/-- The state after bytes of the waveform table. -/
def State.lutBytesSent (s : State) : List Byte → State
  | [] => s
  | b :: bs => (s.lutByteSent b).lutBytesSent bs

theorem lutByte_runs {k : Nat} {b : Byte} {s : State} (hact : s.flags.active = true) (hpc : s.pc = ⟨.loadLut, 2⟩)
    (hb : (selectedLut s.cfg)[s.cnt.k]? = some b) :
    Runs (fun _ => True) (k + 2) s (frameEvents ⟨.high, b⟩) 14 (s.lutByteSent b) := by
  have hk : s.cnt.k ≠ Config.lutLen := by
    obtain ⟨hlt, -⟩ := Vector.getElem?_eq_some_iff.mp hb
    exact Nat.ne_of_lt hlt
  have htest : Runs (fun _ => True) (k + 2) s [] (k + 1) s.advance :=
    runs_silent (by simp [line, hpc, loadLutLine, hk]) rfl rfl rfl rfl
  have hdata : Runs (fun _ => True) (k + 1) s.advance (frameEvents ⟨.high, b⟩) 15 _ :=
    data_runs (s := s.advance) (r := .loadLut) (n := 3) hact (by simp [hpc]) (by simp [line, hpc, loadLutLine, hb]) fun _ _ => trivial
  refine (htest.trans (hdata.trans (runs_silent (t := s.lutByteSent b) ?_ rfl rfl rfl rfl))).copy (by simp) rfl
  simp [line, hpc, loadLutLine, afterCall, loadLutAfter, State.dataSent, State.frameSent, State.setCnt, State.goto, State.setPc,
    State.lutByteSent, State.advance]

theorem lutBytes_runs {bs : List Byte} {s : State} (hact : s.flags.active = true) (hpc : s.pc = ⟨.loadLut, 2⟩)
    (hbs : ∀ i b, bs[i]? = some b → (selectedLut s.cfg)[s.cnt.k + i]? = some b) :
    Runs (fun _ => True) 14 s ((bs.map fun b => ⟨.high, b⟩).flatMap frameEvents) 14 (s.lutBytesSent bs) := by
  induction bs generalizing s with
  | nil => exact runs_of_settle rfl rfl rfl rfl rfl
  | cons b bs ih =>
    refine (lutByte_runs (k := 12) hact hpc (hbs 0 b rfl)).trans (ih (s := s.lutByteSent b) hact rfl fun i c hc => ?_)
    have := hbs (i + 1) c hc
    rwa [← Nat.add_assoc, Nat.add_right_comm] at this

theorem lutBytesSent_eq {s : State} (bs : List Byte) (hpc : s.pc = ⟨.loadLut, 2⟩) : s.lutBytesSent bs = { s with
    hist := s.hist ++ (bs.map fun b => ⟨.high, b⟩).flatMap frameEvents, cnt := { s.cnt with k := s.cnt.k + bs.length },
    pins := if bs = [] then s.pins else { s.pins with dc := .driven .high, cs := .driven .high },
    tmp := { s.tmp with tByte := bs.getLast?.getD s.tmp.tByte }, panel := (s.lutBytesSent bs).panel } := by
  induction bs generalizing s with
  | nil => simp [State.lutBytesSent]
  | cons b bs ih =>
    rw [State.lutBytesSent, ih rfl]
    simp [State.lutByteSent, State.dataSent, State.frameSent, hpc, List.getLast?_cons, Nat.add_comm 1, Nat.add_assoc]

theorem lutBytesSent_fresh {s : State} (bs : List Byte) (h : s.panel.Fresh) : (s.lutBytesSent bs).panel.Fresh := by
  induction bs generalizing s with
  | nil => exact h
  | cons b bs ih => exact ih (h.data s.shadow b)

theorem lutBytesSent_shown {s : State} (bs : List Byte) : (s.lutBytesSent bs).panel.shown = s.panel.shown := by
  induction bs generalizing s with
  | nil => rfl
  | cons b bs ih => exact ih.trans (Panel.data_shown _ _ _)

/-- The waveform packet, from INIT's line that calls LOAD_LUT to the state after it. -/
def State.lutSent (s : State) : State :=
  let u := (((s.call .loadLut).commandSent .writeLut).setCnt { s.cnt with k := 0 }).advance.lutBytesSent (selectedLut s.cfg).toList
  ((u.setRs s.rs).setPc ⟨.op .init, 18⟩).setLife .waveformLoaded

theorem lut_runs {k : Nat} {s : State} (hact : s.flags.active = true) (hpc : s.pc = ⟨.op .init, 17⟩) :
    Runs (fun _ => True) (k + 2) s (packetEvents s.cfg.opWriteLut (selectedLut s.cfg).toList) 13 s.lutSent := by
  have hcall : Runs (fun _ => True) (k + 2) s [] (k + 1) (s.call .loadLut) :=
    runs_silent (by simp [line, hpc, initLine]) rfl rfl rfl rfl
  have hcommand : Runs (fun _ => True) (k + 1) (s.call .loadLut) _ 15 _ :=
    command_runs (c := .writeLut) (s := s.call .loadLut) hact rfl rfl fun _ _ => trivial
  have hzero : Runs (fun _ => True) 15 ((s.call .loadLut).commandSent .writeLut) [] 14
      (((s.call .loadLut).commandSent .writeLut).setCnt { s.cnt with k := 0 }).advance :=
    runs_silent rfl rfl rfl rfl rfl
  have hbytes := lutBytes_runs (bs := (selectedLut s.cfg).toList)
    (s := (((s.call .loadLut).commandSent .writeLut).setCnt { s.cnt with k := 0 }).advance) hact rfl fun i b hb => by
      simpa [State.commandSent, State.frameSent] using hb
  have heq := lutBytesSent_eq (s := (((s.call .loadLut).commandSent .writeLut).setCnt { s.cnt with k := 0 }).advance)
    (selectedLut s.cfg).toList rfl
  have hstart := hcall.trans (hcommand.trans (hzero.trans hbytes))
  unfold State.lutSent
  generalize (((s.call .loadLut).commandSent .writeLut).setCnt { s.cnt with k := 0 }).advance.lutBytesSent
    (selectedLut s.cfg).toList = u at hstart heq
  have hline : line u = .ret u := by
    rw [heq]
    simp [line, loadLutLine, State.commandSent, State.frameSent]
  have hret : Runs (fun _ => True) 14 u [] 13 (returnTo ⟨.op .init, 18⟩ s.rs u) :=
    runs_return hline (by rw [heq]; simp [State.commandSent, State.frameSent, State.call, hpc]) rfl rfl rfl rfl
  refine (hstart.trans hret).copy ?_ rfl
  simp [packetEvents, packetFrames, commandByte]

theorem lutSent_eq (s : State) : s.lutSent = { s with
    pc := ⟨.op .init, 18⟩, life := .waveformLoaded, hist := s.hist ++ packetEvents s.cfg.opWriteLut (selectedLut s.cfg).toList,
    cnt := { s.cnt with k := 30 }, pins := { s.pins with dc := .driven .high, cs := .driven .high },
    tmp := { s.tmp with tByte := (selectedLut s.cfg)[29] }, panel := s.lutSent.panel } := by
  have hne : (selectedLut s.cfg).toList ≠ [] := List.ne_nil_of_length_eq_add_one (n := 29) (by simp)
  have hlast (b : Byte) : (selectedLut s.cfg).toList.getLast?.getD b = (selectedLut s.cfg)[29] := by
    rw [List.getLast?_eq_getElem?]
    simp
  unfold State.lutSent
  rw [lutBytesSent_eq _ rfl]
  simp [hne, hlast, State.commandSent, State.frameSent, State.call, State.setRs, State.setPc, State.setCnt, State.advance, State.setLife,
    packetEvents, packetFrames, commandByte]

theorem lutSent_panel {s : State} (h : s.panel.Fresh) : s.lutSent.panel.Fresh ∧ s.lutSent.panel.shown = s.panel.shown := by
  constructor
  · exact lutBytesSent_fresh _ (h.begin (by decide) s.shadow)
  · exact (lutBytesSent_shown _).trans (Panel.begin_shown _ _ _ (by decide))

/-! ### INIT -/

theorem initEvents_eq (c : Config) :
    initEvents c = resetEvents ++ (registerEvents c ++ packetEvents c.opWriteLut (selectedLut c).toList) := by
  simp [initEvents, registerEvents]

theorem init_runs {k : Nat} {s : State} (hact : s.flags.active = true) (hpc : s.pc = ⟨.op .init, 0⟩) :
    Runs (fun _ => True) (k + 1) s (initEvents s.cfg) 13 s.resetDone.registersSent.lutSent := by
  have hregisters := registersSent_eq (s := s.resetDone) rfl
  have hlut := lut_runs (k := 13) (s := s.resetDone.registersSent) (by rw [hregisters]; exact hact) (by rw [hregisters])
  refine ((reset_runs hact hpc).trans ((registers_runs (s := s.resetDone) hact rfl).trans hlut)).copy ?_ rfl
  rw [initEvents_eq, hregisters]
  rfl

theorem init_state (s : State) : s.resetDone.registersSent.lutSent = { s with
    pc := ⟨.op .init, 18⟩, life := .waveformLoaded, hist := s.hist ++ initEvents s.cfg,
    shadow := { s.shadow with winValid := false, curValid := false },
    pins := { s.pins with rst := .driven .high, dc := .driven .high, cs := .driven .high }, cnt := { s.cnt with k := 30 },
    tmp := { s.tmp with tByte := (selectedLut s.cfg)[29] }, panel := s.resetDone.registersSent.lutSent.panel } := by
  have hregisters := registersSent_eq (s := s.resetDone) rfl
  rw [lutSent_eq, hregisters]
  simp [State.resetDone, initEvents_eq]

theorem init_panel (s : State) : s.resetDone.registersSent.lutSent.panel.Fresh ∧
    s.resetDone.registersSent.lutSent.panel.shown = s.panel.shown := by
  have hfresh : s.resetDone.registersSent.panel.Fresh := registersSent_fresh s.panel.reset_fresh
  have hshown : s.resetDone.registersSent.panel.shown = s.panel.shown := sendAll_shown (by simp [initCalls])
  obtain ⟨hlut, hlut'⟩ := lutSent_panel hfresh
  exact ⟨hlut, hlut'.trans hshown⟩

end Sys2Proof.Machine

namespace Sys2Proof.Proofs

open Sys2Proof.Machine Sys2Proof.Safety

theorem initEvents_length (c : Config) : (initEvents c).length = 194 := by
  simp [initEvents_eq, registerEvents, packetEvents_length, resetEvents, Config.lutLen]

theorem levels_init (s : State) (p : Nat) (c : Config) : Levels s p (initEvents c) := by
  simp only [initEvents, levels_append]
  exact ⟨⟨⟨⟨⟨⟨⟨levels_okEvents (rs := resetRequests) (by decide), levels_packet _ _ _ _⟩, levels_packet _ _ _ _⟩,
    levels_packet _ _ _ _⟩, levels_packet _ _ _ _⟩, levels_packet _ _ _ _⟩, levels_packet _ _ _ _⟩, levels_packet _ _ _ _⟩

/-- Settles O38: the reset pulses, the register packets, the waveform packet. -/
theorem initCompletes : Obligations.InitCompletes := by
  intro s hact hlife hquiet
  have hacc : acceptance .init s = none := by
    simp only [List.mem_cons, List.not_mem_nil, or_false] at hlife
    rcases hlife with h | h | h | h <;> simp [acceptance, h, verdict]
  have hruns := init_runs (k := 15) (s := accept .init s) (by simp) (accept_pc .init s)
  have hstate := init_state (accept .init s)
  obtain ⟨⟨hram, -, hawake, hidle⟩, hshown⟩ := init_panel (accept .init s)
  generalize (accept .init s).resetDone.registersSent.lutSent.panel = p at hstate hram hawake hidle hshown
  rw [hstate] at hruns
  obtain ⟨t, hexec, hactive, hhist, hrun⟩ := op_completes hact hacc hruns rfl (by simp [State.setLife]) (initEvents_length _)
    ⟨by rw [initEvents_length]; exact hquiet, levels_init _ _ _⟩
  refine ⟨t, p, hexec, hactive, hhist, hrun.trans ?_, hram, by rw [hshown, accept_panel], hawake, hidle⟩
  simp [State.setLife, State.finish, State.setPc, State.setFlags, State.setRes, accept, sample, State.setRs, flags_of_idle hact]

end Sys2Proof.Proofs

/-! ## The frame loop of WRITE_FRAME and CLEAR (R181 to R183) -/

namespace Sys2Proof.Machine

open Sys2Proof.Safety

/-! ### The lines of the loop -/

/-- The two operations that run the frame loop. -/
def FrameOp (op : HostOp) : Prop := op = .writeFrame ∨ op = .clear

/-- The byte of row `j`, column `i`: of `FB`, or the color (R182, R183). -/
def frameData (op : HostOp) (s : State) (j i : Nat) : Byte :=
  if op = .clear then s.tmp.tFill else s.fb.read (16 * j + i)

theorem frameData_congr {op : HostOp} {s t : State} (hfb : t.fb = s.fb) (hfill : t.tmp.tFill = s.tmp.tFill) (j i : Nat) :
    frameData op t j i = frameData op s j i := by
  unfold frameData
  rw [hfb, hfill]

/-- The byte source of the operation. -/
def frameSource (op : HostOp) (s : State) : Option Byte := if op = .clear then clearByte s else frameByte s

theorem frameSource_eq (op : HostOp) {s : State} (hj : s.cnt.j < 296) (hi : s.cnt.i < 16) :
    frameSource op s = some (frameData op s s.cnt.j s.cnt.i) := by
  unfold frameSource frameData
  split
  · rfl
  · have hlt : 16 * s.cnt.j + s.cnt.i < 4736 := by omega
    simp [frameByte, Config.rowBytes, Config.fbBytes, hlt]

theorem line_frame {op : HostOp} (hop : FrameOp op) {s : State} {n : Nat} (hpc : s.pc = ⟨.op op, n⟩) :
    line s = frameLoopLine (frameSource op s) n s := by
  rcases hop with rfl | rfl <;> simp [line, hpc, writeFrameLine, clearLine, frameSource]

theorem afterCall_frame {op : HostOp} (hop : FrameOp op) (n : Nat) (s : State) : afterCall (.op op) n s = frameLoopAfter n s := by
  rcases hop with rfl | rfl <;> rfl

/-! ### How many rows count as sent -/

theorem rowsSent_writeFrame {s : State} {n : Nat} {fs : List PC} (hrs : s.rs = ⟨.op .writeFrame, n + 2⟩ :: fs) : rowsSent s = s.cnt.j := by
  simp [rowsSent, hrs]

theorem rowsSent_writeFrame_below {s : State} {f : PC} {n : Nat} {fs : List PC} (hf : f.routine ≠ .op .writeFrame)
    (hrs : s.rs = f :: ⟨.op .writeFrame, n + 2⟩ :: fs) : rowsSent s = s.cnt.j := by
  simp [rowsSent, hrs, hf]

/-- In `u` the sequencer waits for a request of the operation that runs in `s`, with the rows before row `j` of `s` sent. -/
structure InRow (op : HostOp) (s u : State) : Prop where
  rows : op = .writeFrame → rowsSent u = s.cnt.j
  running : runningRoutine u.pc u.rs = runningRoutine s.pc s.rs

section InRow

variable {op : HostOp} {s v u : State} {n : Nat} (h : Waiting v u) (hpc : s.pc.routine = .op op) (hj : v.cnt.j = s.cnt.j)

include h hpc hj

theorem InRow.of_call (hrs : v.rs = ⟨.op op, n + 2⟩ :: s.rs) : InRow op s u := by
  obtain ⟨-, hrows, -, hrunning⟩ := h
  refine ⟨?_, ?_⟩
  · rintro rfl
    rw [hrows, rowsSent_writeFrame hrs, hj]
  · rw [hrunning, hrs]
    exact runningRoutine_congr s.pc ⟨.op op, n + 2⟩ hpc.symm s.rs

theorem InRow.of_call_below {f : PC} (hf : f.routine ≠ .op .writeFrame) (hrs : v.rs = f :: ⟨.op op, n + 2⟩ :: s.rs) : InRow op s u := by
  obtain ⟨-, hrows, -, hrunning⟩ := h
  refine ⟨?_, ?_⟩
  · rintro rfl
    rw [hrows, rowsSent_writeFrame_below hf hrs, hj]
  · rw [hrunning, hrs]
    exact runningRoutine_congr s.pc ⟨.op op, n + 2⟩ hpc.symm s.rs

end InRow

/-! ### The bytes of a row -/

/-- The state after one byte of a row, at the byte loop's test again. -/
def State.rowByteSent (s : State) (b : Byte) : State := { s.dataSent b with
  pc := ⟨s.pc.routine, 5⟩, cnt := { s.cnt with i := s.cnt.i + 1 } }

/-- The state after bytes of a row. -/
def State.rowBytesSent (s : State) : List Byte → State
  | [] => s
  | b :: bs => (s.rowByteSent b).rowBytesSent bs

theorem rowBytesSent_eq {s : State} {r : Routine} (bs : List Byte) (hpc : s.pc = ⟨r, 5⟩) : s.rowBytesSent bs = { s with
    hist := s.hist ++ (bs.map fun b => ⟨.high, b⟩).flatMap frameEvents, cnt := { s.cnt with i := s.cnt.i + bs.length },
    pins := if bs = [] then s.pins else { s.pins with dc := .driven .high, cs := .driven .high },
    tmp := { s.tmp with tByte := bs.getLast?.getD s.tmp.tByte }, panel := s.panel.received s.shadow bs } := by
  induction bs generalizing s with
  | nil => simp [State.rowBytesSent, Panel.received]
  | cons b bs ih =>
    rw [State.rowBytesSent, ih (by simp [State.rowByteSent, hpc])]
    simp [State.rowByteSent, State.dataSent, State.frameSent, hpc, List.getLast?_cons, Nat.add_comm 1, Nat.add_assoc, Panel.received_cons]

section Row

variable {P : State → Prop} {op : HostOp} (hop : FrameOp op) {k : Nat} {s : State} (hact : s.flags.active = true)

include hop hact

theorem rowByte_runs (hpc : s.pc = ⟨.op op, 5⟩) (hj : s.cnt.j < 296) (hi : s.cnt.i < 16)
    (hP : ∀ u, Waiting (s.advance.callData (frameData op s s.cnt.j s.cnt.i)) u → P u) :
    Runs P (k + 2) s (frameEvents ⟨.high, frameData op s s.cnt.j s.cnt.i⟩) 14 (s.rowByteSent (frameData op s s.cnt.j s.cnt.i)) := by
  have hsource : frameSource op s.advance = some (frameData op s s.cnt.j s.cnt.i) := frameSource_eq (s := s.advance) op hj hi
  have hne : s.cnt.i ≠ 16 := by omega
  have htest : Runs P (k + 2) s [] (k + 1) s.advance :=
    runs_silent (by simp [line_frame hop hpc, frameLoopLine, Config.rowBytes, hne]) rfl rfl rfl rfl
  have hpc6 : s.advance.pc = ⟨.op op, 6⟩ := by simp [hpc]
  have hdata : Runs P (k + 1) s.advance _ 15 _ :=
    data_runs (s := s.advance) hact hpc6 (by simp [line_frame hop hpc6, frameLoopLine, hsource]) hP
  rw [afterCall_frame hop] at hdata
  refine (htest.trans (hdata.trans (runs_silent (t := s.rowByteSent (frameData op s s.cnt.j s.cnt.i)) ?_ rfl rfl rfl rfl))).copy
    (by simp) rfl
  rw [line_frame hop (n := 7) (by simp [frameLoopAfter, State.dataSent, State.frameSent, hpc])]
  simp [frameLoopLine, frameLoopAfter, State.dataSent, State.frameSent, State.setCnt, State.goto, State.setPc, State.rowByteSent,
    State.advance]

theorem rowBytes_runs {bs : List Byte} (hpc : s.pc = ⟨.op op, 5⟩) (hj : s.cnt.j < 296)
    (hbs : ∀ i b, bs[i]? = some b → s.cnt.i + i < 16 ∧ frameData op s s.cnt.j (s.cnt.i + i) = b)
    (hP : ∀ i b, bs[i]? = some b → ∀ u, Waiting ((s.rowBytesSent (bs.take i)).advance.callData b) u → P u) (hne : bs ≠ []) :
    Runs P (k + 2) s ((bs.map fun b => ⟨.high, b⟩).flatMap frameEvents) 14 (s.rowBytesSent bs) := by
  induction bs generalizing s k with
  | nil => exact absurd rfl hne
  | cons b bs ih =>
    obtain ⟨hi, hb⟩ := hbs 0 b rfl
    rw [Nat.add_zero] at hi hb
    subst hb
    have hfirst := rowByte_runs (k := k) hop hact hpc hj hi (hP 0 _ rfl)
    by_cases hlast : bs = []
    · subst hlast
      exact hfirst.copy (by simp) rfl
    · refine hfirst.trans (ih (s := s.rowByteSent _) hact (by simp [State.rowByteSent, hpc]) hj (fun i b' hb' => ?_)
        (fun i b' hb' => hP (i + 1) b' hb') hlast)
      have := hbs (i + 1) b' hb'
      rwa [← Nat.add_assoc, Nat.add_right_comm] at this

end Row

/-! ### A row -/

/-- The bytes of the row that the loop is at. -/
def rowData (op : HostOp) (s : State) : List Byte := (List.range 16).map (frameData op s s.cnt.j)

theorem rowData_length (op : HostOp) (s : State) : (rowData op s).length = 16 := by simp [rowData]

/-- The state at SET_CURSOR's first line, in row `j`. -/
def State.rowStarted (s : State) : State :=
  ((s.goto 3).setTmp { s.tmp with tX0 := 0#16, tY0 := BitVec.ofNat 16 s.cnt.j }).call (.op .setCursor)

/-- The state after the row's SET_CURSOR. -/
def State.rowCursor (s : State) (m : Nat) : State :=
  ((s.rowStarted.cursorSet m s.rowStarted.cursorSent.panel).setRs s.rs).setPc ⟨s.pc.routine, 4⟩

/-- The state after the command frame of the row's write-RAM packet. -/
def State.rowWriting (s : State) (m : Nat) : State :=
  ((s.rowCursor m).commandSent .writeRam).setCnt { (s.rowCursor m).cnt with i := 0 }

/-- The state after the row, at the row loop's test again. -/
def State.rowDone (op : HostOp) (m : Nat) (s : State) : State :=
  let u := (s.rowWriting m).rowBytesSent (rowData op s)
  (u.setCnt { u.cnt with j := s.cnt.j + 1 }).goto 2

section RowRuns

variable {P : State → Prop} {op : HostOp} (hop : FrameOp op) {k m : Nat} {s : State} (hact : s.flags.active = true)
  (hpc : s.pc = ⟨.op op, 2⟩) (hj : s.cnt.j < 296)

include hop hact hpc hj

theorem rowCursor_runs (hpolls : PollsAllowed s.cfg m)
    (hframes : ∀ i (c : Call), (cursorCalls s.rowStarted.tmp)[i]? = some c →
      ∀ u, Waiting (c.enter (sendAll (.op .setCursor) 0 ((cursorCalls s.rowStarted.tmp).take i) s.rowStarted)) u → P u)
    (hwait : ∀ u, Waiting (s.rowStarted.cursorSent.call .waitIdle) u → P u) :
    Runs P (k + 3) s (cursorEvents s.cfg 0#16 (BitVec.ofNat 16 s.cnt.j) m) 14 (s.rowCursor m) := by
  have hne : s.cnt.j ≠ 296 := Nat.ne_of_lt hj
  have htest : Runs P (k + 3) s [] (k + 2) (s.goto 3) :=
    runs_silent (by simp [line_frame hop hpc, frameLoopLine, Config.height, hne, State.advance, State.goto, hpc]) rfl rfl rfl rfl
  have hcall : Runs P (k + 2) (s.goto 3) [] (k + 1) s.rowStarted :=
    runs_silent (by rw [line_frame hop (n := 3) (by simp [hpc])]; rfl) rfl rfl rfl rfl
  have hcursor := cursor_runs (k := k) (m := m) (s := s.rowStarted) hact rfl hpolls hframes hwait
  have hret : Runs P 15 (s.rowStarted.cursorSet m s.rowStarted.cursorSent.panel) [] 14 _ := runs_return rfl rfl rfl rfl rfl rfl
  refine (htest.trans (hcall.trans (hcursor.trans hret))).copy (by simp; rfl) ?_
  simp [returnTo, hpc, afterCall_frame hop, frameLoopAfter, State.rowCursor, State.rowStarted, State.call, State.cursorSet, State.setRs,
    State.setPc]

omit hj in
theorem rowWriting_runs (hcommand : ∀ u, Waiting ((s.rowCursor m).callCommand .writeRam) u → P u) :
    Runs P (k + 1) (s.rowCursor m) (frameEvents ⟨.low, s.cfg.opWriteRam⟩) 15 (s.rowWriting m) := by
  have hpc4 : (s.rowCursor m).pc = ⟨.op op, 4⟩ := by simp [State.rowCursor, hpc]
  have hrun : Runs P (k + 1) (s.rowCursor m) _ 15 _ :=
    command_runs (c := .writeRam) (s := s.rowCursor m) hact hpc4 (by rw [line_frame hop hpc4]; rfl) hcommand
  rw [afterCall_frame hop] at hrun
  exact hrun.copy rfl rfl

theorem row_runs (hpolls : PollsAllowed s.cfg m)
    (hframes : ∀ i (c : Call), (cursorCalls s.rowStarted.tmp)[i]? = some c →
      ∀ u, Waiting (c.enter (sendAll (.op .setCursor) 0 ((cursorCalls s.rowStarted.tmp).take i) s.rowStarted)) u → P u)
    (hwait : ∀ u, Waiting (s.rowStarted.cursorSent.call .waitIdle) u → P u)
    (hcommand : ∀ u, Waiting ((s.rowCursor m).callCommand .writeRam) u → P u)
    (hbytes : ∀ i b, (rowData op s)[i]? = some b →
      ∀ u, Waiting (((s.rowWriting m).rowBytesSent ((rowData op s).take i)).advance.callData b) u → P u) :
    Runs P (k + 3) s (rowEvents s.cfg s.cnt.j m (rowData op s)) 12 (s.rowDone op m) := by
  have hpc5 : (s.rowWriting m).pc = ⟨.op op, 5⟩ := by
    simp [State.rowWriting, State.commandSent, State.frameSent, State.rowCursor, hpc]
  have hbytesRun := rowBytes_runs (k := 13) (bs := rowData op s) (s := s.rowWriting m) hop hact hpc5 hj (fun i b hb => ?_) hbytes
    (List.ne_nil_of_length_eq_add_one (rowData_length op s))
  · have heq := rowBytesSent_eq (rowData op s) hpc5
    have hstart := (rowCursor_runs (k := k) hop hact hpc hj hpolls hframes hwait).trans
      ((rowWriting_runs (k := 13) hop hact hpc hcommand).trans hbytesRun)
    unfold State.rowDone
    generalize (s.rowWriting m).rowBytesSent (rowData op s) = u at hstart heq
    have hi : u.cnt.i = 16 := by rw [heq]; simp [rowData_length, State.rowWriting]
    have hpcu : u.pc = ⟨.op op, 5⟩ := by rw [heq]; exact hpc5
    have hju : u.cnt.j = s.cnt.j := by rw [heq]; rfl
    have hend : Runs P 14 u [] 13 (u.goto 8) :=
      runs_silent (by simp [line_frame hop hpcu, frameLoopLine, Config.rowBytes, hi]) rfl rfl rfl rfl
    have hnext : Runs P 13 (u.goto 8) [] 12 ((u.setCnt { u.cnt with j := s.cnt.j + 1 }).goto 2) :=
      runs_silent (by rw [line_frame hop (n := 8) (by simp [hpcu])]; simp [frameLoopLine, hju, State.goto, State.setCnt, State.setPc])
        rfl rfl rfl rfl
    refine (hstart.trans (hend.trans hnext)).copy ?_ rfl
    simp [rowEvents, packetEvents, packetFrames]
  · obtain ⟨hi, rfl⟩ : i < 16 ∧ frameData op s s.cnt.j i = b := by
      obtain ⟨hlt, hget⟩ := List.getElem?_eq_some_iff.mp hb
      exact ⟨by simpa [rowData] using hlt, by simpa [rowData] using hget⟩
    refine ⟨by simpa [State.rowWriting] using hi, ?_⟩
    simp [State.rowWriting, frameData, State.rowCursor, State.cursorSet, State.rowStarted, State.commandSent, State.frameSent]

end RowRuns

theorem rowDone_eq {op : HostOp} {m : Nat} {s : State} (hpc : s.pc = ⟨.op op, 2⟩) : s.rowDone op m = { s with
    hist := s.hist ++ rowEvents s.cfg s.cnt.j m (rowData op s), pins := { s.pins with dc := .driven .high, cs := .driven .high },
    cnt := { s.cnt with j := s.cnt.j + 1, i := 16, polls := m },
    tmp := { s.tmp with tX0 := 0#16, tY0 := BitVec.ofNat 16 s.cnt.j, tByte := frameData op s s.cnt.j 15 },
    shadow := { s.shadow with curX := 0#8, curY := BitVec.ofNat 16 s.cnt.j, curValid := true },
    flags := { s.flags with busySample := false }, panel := (s.rowDone op m).panel } := by
  have hne : rowData op s ≠ [] := List.ne_nil_of_length_eq_add_one (rowData_length op s)
  have hlast (b : Byte) : (rowData op s).getLast?.getD b = frameData op s s.cnt.j 15 := by
    rw [List.getLast?_eq_getElem?, rowData_length]
    simp [rowData]
  have hpc5 : (s.rowWriting m).pc = ⟨.op op, 5⟩ := by
    simp [State.rowWriting, State.commandSent, State.frameSent, State.rowCursor, hpc]
  unfold State.rowDone
  rw [rowBytesSent_eq (rowData op s) hpc5]
  simp [hne, hlast, rowData_length, State.rowWriting, State.commandSent, State.frameSent, State.rowCursor, State.cursorSet,
    State.rowStarted, State.call, State.goto, State.setTmp, State.setRs, State.setPc, State.setCnt, rowEvents, packetEvents, packetFrames,
    commandByte, hpc]
  rfl

/-! ### Panel RAM during a row (R72) -/

/-- The panel is awake, no refresh is under way, and the window is the whole panel. -/
structure RowReady (s : State) : Prop where
  idle : s.panel.refreshing = false
  awake : s.panel.asleep = false
  valid : s.shadow.winValid = true
  left : s.shadow.winXs = 0#8
  right : s.shadow.winXe = 15#8
  top : s.shadow.winYs = 0#16
  bottom : s.shadow.winYe = 295#16

/-- No refresh is under way in `u`, and panel RAM has the rows before row `j` of `s` as it had them in `s`. -/
def KeepsRowsBefore (s u : State) : Prop :=
  u.panel.refreshing = false ∧ ∀ a, a < 16 * s.cnt.j → u.panel.ram.lookup a = s.panel.ram.lookup a

theorem KeepsRowsBefore.of_ram {s u : State} (hidle : u.panel.refreshing = false) (hram : u.panel.ram = s.panel.ram) :
    KeepsRowsBefore s u := ⟨hidle, fun a _ => by rw [hram]⟩

section RowPanel

variable {s : State} (h : RowReady s) (hj : s.cnt.j < 296)

include h

/-- The frames of the row's SET_CURSOR leave panel RAM alone. -/
theorem cursorFrame_panel {i : Nat} {c : Call} (hc : (cursorCalls s.rowStarted.tmp)[i]? = some c) :
    (c.enter (sendAll (.op .setCursor) 0 ((cursorCalls s.rowStarted.tmp).take i) s.rowStarted)).panel.refreshing = false ∧
      (c.enter (sendAll (.op .setCursor) 0 ((cursorCalls s.rowStarted.tmp).take i) s.rowStarted)).panel.ram = s.panel.ram := by
  have hidle := h.idle
  rcases i with _ | _ | _ | _ | _ | i <;> cases hc <;>
    simp [cursorCalls, sendAll, Call.sent, Call.enter, State.callCommand, State.callData, State.call, State.commandSent, State.dataSent,
      State.frameSent, afterCall, setCursorAfter, noteCursorX, Panel.cursorXSent, State.rowStarted, Panel.begin, Panel.enter, Panel.meet,
      Panel.data, hidle, State.setByte, State.setTmp, State.setPanel, State.setShadow, State.setRs, State.setPc, State.goto]

include hj

/-- The cursor of the row is inside the window, and fresh. -/
theorem cursorSent_panel : s.rowStarted.cursorSent.panel.refreshing = false ∧ s.rowStarted.cursorSent.panel.ram = s.panel.ram ∧
    s.rowStarted.cursorSent.panel.asleep = false ∧ s.rowStarted.cursorSent.panel.cursorFresh = true := by
  have hidle := h.idle
  have hy : s.cnt.j % 65536 = s.cnt.j := Nat.mod_eq_of_lt (by omega)
  have hx : xb 0#16 = 0#8 := rfl
  have hj' : s.cnt.j ≤ 295 := by omega
  simp [State.cursorSent, cursorCalls, sendAll, Call.sent, State.commandSent, State.dataSent, State.frameSent, afterCall, setCursorAfter,
    noteCursorX, noteCursor, Panel.cursorXSent, Panel.cursorSent, cursorOk, State.rowStarted, Panel.begin, Panel.enter, Panel.meet,
    Panel.data, hidle, h.awake, State.setTmp, State.setPanel, State.setShadow, State.call, State.setRs, State.setPc, State.goto,
    hy, hx, hj, hj', h.valid, h.left, h.right, h.top, h.bottom]

/-- The conditions for the row's sixteen bytes hold. -/
theorem row_inside (m : Nat) : RowInside (s.rowCursor m).panel (s.rowCursor m).shadow := by
  obtain ⟨hidle, -, hawake, hfresh⟩ := cursorSent_panel h hj
  have hy : s.cnt.j % 65536 = s.cnt.j := Nat.mod_eq_of_lt (by omega)
  have hj' : s.cnt.j ≤ 295 := by omega
  have hx : xb 0#16 = 0#8 := rfl
  simp [RowInside, State.rowCursor, State.cursorSet, State.rowStarted, State.call, State.setTmp, State.setRs, State.setPc, State.goto,
    hx, hy, hj', h.valid, h.left, h.right, h.top, h.bottom]
  exact ⟨hfresh, hawake, hidle⟩

theorem rowWriting_panel (m : Nat) : (s.rowWriting m).panel = { (s.rowCursor m).panel with
    sending := some .writeRam, sent := 0, inWindow := true, cursorX := false, cursorFresh := false, left := [] } :=
  begin_writeRam_inside ((rowInside_iff _ _).mp (row_inside h hj m)).1

end RowPanel

/-! ### The waiting states of a row -/

theorem Panel.data_refreshing (p : Panel) (w : Shadow) (b : Byte) : (p.data w b).refreshing = p.refreshing := by
  simp only [Panel.data]
  split
  · split <;> rfl
  · rfl

theorem Panel.data_asleep (p : Panel) (w : Shadow) (b : Byte) : (p.data w b).asleep = p.asleep := by
  simp only [Panel.data]
  split
  · split <;> rfl
  · rfl

theorem Panel.received_refreshing (w : Shadow) (data : List Byte) (p : Panel) : (p.received w data).refreshing = p.refreshing := by
  induction data generalizing p with
  | nil => rfl
  | cons b bs ih => rw [Panel.received_cons, ih, Panel.data_refreshing]

theorem Panel.received_asleep (w : Shadow) (data : List Byte) (p : Panel) : (p.received w data).asleep = p.asleep := by
  induction data generalizing p with
  | nil => rfl
  | cons b bs ih => rw [Panel.received_cons, ih, Panel.data_asleep]

theorem cursorFrame_control {s : State} {i : Nat} {c : Call} (hc : (cursorCalls s.rowStarted.tmp)[i]? = some c) :
    let v := c.enter (sendAll (.op .setCursor) 0 ((cursorCalls s.rowStarted.tmp).take i) s.rowStarted)
    v.cnt.j = s.cnt.j ∧ v.rs = ⟨.op .setCursor, i + 1⟩ :: ⟨s.pc.routine, 4⟩ :: s.rs := by
  rcases i with _ | _ | _ | _ | _ | i <;> cases hc <;>
    simp [cursorCalls, sendAll, Call.sent, Call.enter, State.callCommand, State.callData, State.call, State.commandSent, State.dataSent,
      State.frameSent, afterCall, setCursorAfter, noteCursorX, State.rowStarted, State.setByte, State.setTmp, State.setPanel,
      State.setShadow, State.setRs, State.setPc, State.goto]

section RowWaits

variable {op : HostOp} {m : Nat} {s u : State} (hpc : s.pc = ⟨.op op, 2⟩)

include hpc

theorem cursorFrame_inRow {i : Nat} {c : Call} (hc : (cursorCalls s.rowStarted.tmp)[i]? = some c)
    (hu : Waiting (c.enter (sendAll (.op .setCursor) 0 ((cursorCalls s.rowStarted.tmp).take i) s.rowStarted)) u) : InRow op s u := by
  obtain ⟨hj, hrs⟩ := cursorFrame_control hc
  rw [hpc] at hrs
  exact .of_call_below hu (by rw [hpc]) hj (by simp) hrs

theorem cursorWait_inRow (hu : Waiting (s.rowStarted.cursorSent.call .waitIdle) u) : InRow op s u := by
  have heq := cursorSent_eq (s := s.rowStarted) rfl
  refine .of_call_below hu (by rw [hpc]) ?_ (f := ⟨.op .setCursor, 6⟩) nofun (n := 2) ?_ <;> rw [heq]
  · rfl
  · simp [State.rowStarted, State.call, hpc]

theorem writeRam_inRow (hu : Waiting ((s.rowCursor m).callCommand .writeRam) u) : InRow op s u := by
  refine .of_call hu (by rw [hpc]) rfl (n := 3) ?_
  simp [State.rowCursor, State.callCommand, State.call, hpc]

theorem rowByte_inRow {b : Byte} {bs : List Byte} (hu : Waiting (((s.rowWriting m).rowBytesSent bs).advance.callData b) u) :
    InRow op s u := by
  have hpc5 : (s.rowWriting m).pc = ⟨.op op, 5⟩ := by
    simp [State.rowWriting, State.commandSent, State.frameSent, State.rowCursor, hpc]
  have heq := rowBytesSent_eq bs hpc5
  refine .of_call hu (by rw [hpc]) ?_ (n := 5) ?_ <;> rw [heq]
  · rfl
  · simp [State.callData, State.call, hpc5]
    simp [State.rowWriting, State.commandSent, State.frameSent, State.rowCursor]

variable (h : RowReady s) (hj : s.cnt.j < 296)

include h hj

omit hpc in
theorem writeRam_keeps (hu : Waiting ((s.rowCursor m).callCommand .writeRam) u) : KeepsRowsBefore s u := by
  obtain ⟨hidle, hram, -, -⟩ := cursorSent_panel h hj
  obtain ⟨hpanel, -⟩ := hu
  have hbegin : u.panel = (s.rowWriting m).panel := hpanel
  rw [rowWriting_panel h hj m] at hbegin
  exact .of_ram (by rw [hbegin]; exact hidle) (by rw [hbegin]; exact hram)

theorem rowBytes_keeps {b : Byte} {bs : List Byte} (hbs : bs.length ≤ 16)
    (hu : Waiting (((s.rowWriting m).rowBytesSent bs).advance.callData b) u) : KeepsRowsBefore s u := by
  obtain ⟨hidle, hram, -, -⟩ := cursorSent_panel h hj
  obtain ⟨hpanel, -⟩ := hu
  have hpc5 : (s.rowWriting m).pc = ⟨.op op, 5⟩ := by
    simp [State.rowWriting, State.commandSent, State.frameSent, State.rowCursor, hpc]
  have hbegin := rowWriting_panel h hj m
  have hwriting : (s.rowWriting m).panel.Writing := by rw [hbegin]; exact ⟨rfl, rfl⟩
  have hreceived : u.panel = (s.rowWriting m).panel.received (s.rowWriting m).shadow bs := by
    rw [hpanel, rowBytesSent_eq bs hpc5]
    rfl
  have hsent : (s.rowWriting m).panel.sent = 0 := by rw [hbegin]
  have hx : (s.rowWriting m).shadow.curX.toNat = 0 := by
    simp [State.rowWriting, State.commandSent, State.frameSent, State.rowCursor, State.cursorSet, State.rowStarted, xb]
  have hy : (s.rowWriting m).shadow.curY.toNat = s.cnt.j := by
    have hmod : s.cnt.j % 65536 = s.cnt.j := Nat.mod_eq_of_lt (by omega)
    simp [State.rowWriting, State.commandSent, State.frameSent, State.rowCursor, State.cursorSet, State.rowStarted, hmod]
  have hxe : (s.rowWriting m).shadow.winXe.toNat = 15 := congrArg BitVec.toNat h.right
  refine ⟨?_, fun a ha => ?_⟩
  · rw [hreceived, Panel.received_refreshing, hbegin]
    exact hidle
  · rw [hreceived, hwriting.received_ram (by rw [hsent, hx, hxe]; omega), hsent, hx, hy, if_neg (by omega), hbegin]
    exact congrArg (Memory.lookup · a) hram

end RowWaits

/-- A row of the loop. `P` is what holds of its waiting states. -/
theorem frameRow_runs {P : State → Prop} {op : HostOp} (hop : FrameOp op) {k m : Nat} {s : State} (hact : s.flags.active = true)
    (hpc : s.pc = ⟨.op op, 2⟩) (hj : s.cnt.j < 296) (hpolls : PollsAllowed s.cfg m)
    (hP : ∀ u, InRow op s u → (RowReady s → KeepsRowsBefore s u) → P u) :
    Runs P (k + 3) s (rowEvents s.cfg s.cnt.j m (rowData op s)) 12 (s.rowDone op m) := by
  refine row_runs hop hact hpc hj hpolls (fun i c hc u hu => hP u (cursorFrame_inRow hpc hc hu) fun h => ?_)
    (fun u hu => hP u (cursorWait_inRow hpc hu) fun h => ?_)
    (fun u hu => hP u (writeRam_inRow hpc hu) fun h => writeRam_keeps h hj hu)
    (fun i b hb u hu => hP u (rowByte_inRow hpc hu) fun h => rowBytes_keeps hpc h hj (by simp [rowData_length]) hu)
  · obtain ⟨hidle, hram⟩ := cursorFrame_panel h hc
    exact .of_ram (by rw [hu.1]; exact hidle) (by rw [hu.1]; exact hram)
  · obtain ⟨hidle, hram, -⟩ := cursorSent_panel h hj
    exact .of_ram (by rw [hu.1]; exact hidle) (by rw [hu.1]; exact hram)

/-- What a row leaves in panel RAM, and that the next row finds the panel ready. -/
theorem rowDone_panel {op : HostOp} {m : Nat} {s : State} (hpc : s.pc = ⟨.op op, 2⟩) (h : RowReady s) (hj : s.cnt.j < 296) :
    RowReady (s.rowDone op m) ∧ ∀ x y : Nat, x < 16 → (s.rowDone op m).panel.ramAt x y =
      if y = s.cnt.j then some (frameData op s s.cnt.j x) else s.panel.ramAt x y := by
  have hinside := row_inside h hj m
  obtain ⟨hidle, hram, hawake, -⟩ := cursorSent_panel h hj
  have hpc5 : (s.rowWriting m).pc = ⟨.op op, 5⟩ := by
    simp [State.rowWriting, State.commandSent, State.frameSent, State.rowCursor, hpc]
  have hpanel : (s.rowDone op m).panel = ((s.rowCursor m).panel.begin .writeRam (s.rowCursor m).shadow).received (s.rowCursor m).shadow
      (rowData op s) := by
    unfold State.rowDone
    rw [rowBytesSent_eq (rowData op s) hpc5]
    rfl
  have hbegin := rowWriting_panel h hj m
  have hshadow := congrArg State.shadow (rowDone_eq (op := op) (m := m) hpc)
  refine ⟨⟨?_, ?_, ?_, ?_, ?_, ?_, ?_⟩, fun x y hx => ?_⟩
  · rw [hpanel, Panel.received_refreshing]
    exact (congrArg Panel.refreshing hbegin).trans hidle
  · rw [hpanel, Panel.received_asleep]
    exact (congrArg Panel.asleep hbegin).trans hawake
  · rw [hshadow]; exact h.valid
  · rw [hshadow]; exact h.left
  · rw [hshadow]; exact h.right
  · rw [hshadow]; exact h.top
  · rw [hshadow]; exact h.bottom
  · have hcurX : (s.rowCursor m).shadow.curX.toNat = 0 := by
      simp [State.rowCursor, State.cursorSet, State.rowStarted, xb]
    have hcurY : (s.rowCursor m).shadow.curY.toNat = s.cnt.j := by
      have hmod : s.cnt.j % 65536 = s.cnt.j := Nat.mod_eq_of_lt (by omega)
      simp [State.rowCursor, State.cursorSet, State.rowStarted, hmod]
    rw [hpanel, writeRam_inside (rowData_length op s) hinside hx, hcurX, hcurY]
    by_cases hy : y = s.cnt.j
    · rw [if_pos ⟨hy, Nat.zero_le x⟩, if_pos hy]
      simp [rowData, hx]
    · rw [if_neg (fun hc => hy hc.1), if_neg hy]
      exact congrArg (Memory.lookup · (16 * y + x)) hram

end Sys2Proof.Machine

/-! ### Rows one after another -/

namespace Sys2Proof.Machine

open Sys2Proof.Safety

/-- The events of `d` rows of the loop, from row `j` on. -/
def rowsEvents (c : Config) (src : Nat → Nat → Byte) (m : Nat → Nat) (j d : Nat) : List Event :=
  (List.range' j d).flatMap fun j => rowEvents c j (m j) ((List.range 16).map (src j))

theorem rowsEvents_succ (c : Config) (src : Nat → Nat → Byte) (m : Nat → Nat) (j d : Nat) :
    rowsEvents c src m j (d + 1) = rowEvents c j (m j) ((List.range 16).map (src j)) ++ rowsEvents c src m (j + 1) d := by
  simp [rowsEvents, List.range'_succ]

theorem rowsEvents_append (c : Config) (src : Nat → Nat → Byte) (m : Nat → Nat) (j d d' : Nat) :
    rowsEvents c src m j (d + d') = rowsEvents c src m j d ++ rowsEvents c src m (j + d) d' := by
  rw [rowsEvents, ← List.range'_append_1, List.flatMap_append]
  rfl

/-- The state after `d` rows. -/
def State.rowsDone (op : HostOp) (m : Nat → Nat) : Nat → State → State
  | 0, s => s
  | d + 1, s => (s.rowDone op (m s.cnt.j)).rowsDone op m d

section RowsDone

variable {op : HostOp} {m : Nat → Nat} {s : State} (hpc : s.pc = ⟨.op op, 2⟩)

include hpc

theorem rowDone_pc (m : Nat) : (s.rowDone op m).pc = ⟨.op op, 2⟩ := by rw [rowDone_eq hpc]; exact hpc

theorem rowDone_j (m : Nat) : (s.rowDone op m).cnt.j = s.cnt.j + 1 := by rw [rowDone_eq hpc]

theorem frameData_rowDone (m : Nat) : frameData op (s.rowDone op m) = frameData op s := by
  funext j i
  rw [rowDone_eq hpc]
  exact frameData_congr (t := { s with .. }) rfl rfl j i

theorem rowsDone_eq (d : Nat) : s.rowsDone op m (d + 1) = { s with
    hist := s.hist ++ rowsEvents s.cfg (frameData op s) m s.cnt.j (d + 1),
    pins := { s.pins with dc := .driven .high, cs := .driven .high },
    cnt := { s.cnt with j := s.cnt.j + (d + 1), i := 16, polls := m (s.cnt.j + d) },
    tmp := { s.tmp with tX0 := 0#16, tY0 := BitVec.ofNat 16 (s.cnt.j + d), tByte := frameData op s (s.cnt.j + d) 15 },
    shadow := { s.shadow with curX := 0#8, curY := BitVec.ofNat 16 (s.cnt.j + d), curValid := true },
    flags := { s.flags with busySample := false }, panel := (s.rowsDone op m (d + 1)).panel } := by
  induction d generalizing s with
  | zero =>
    rw [State.rowsDone, State.rowsDone, rowsEvents_succ]
    conv_lhs => rw [rowDone_eq hpc]
    simp [rowsEvents, rowData]
  | succ d ih =>
    have hsum : s.cnt.j + 1 + d = s.cnt.j + (d + 1) := by omega
    rw [State.rowsDone, ih (rowDone_pc hpc _), rowsEvents_succ _ _ _ s.cnt.j (d + 1), frameData_rowDone hpc, rowDone_j hpc, hsum]
    rw [rowDone_eq hpc]
    simp [rowData, Nat.add_assoc, Nat.add_comm 1]

theorem rowsDone_pc (d : Nat) : (s.rowsDone op m d).pc = ⟨.op op, 2⟩ := by
  cases d with
  | zero => exact hpc
  | succ d => rw [rowsDone_eq hpc]; exact hpc

theorem rowsDone_j (d : Nat) : (s.rowsDone op m d).cnt.j = s.cnt.j + d := by
  cases d with
  | zero => rfl
  | succ d => rw [rowsDone_eq hpc]

theorem rowsDone_rs (d : Nat) : (s.rowsDone op m d).rs = s.rs := by
  cases d with
  | zero => rfl
  | succ d => rw [rowsDone_eq hpc]

theorem frameData_rowsDone (d : Nat) : frameData op (s.rowsDone op m d) = frameData op s := by
  funext j i
  cases d with
  | zero => rfl
  | succ d => rw [rowsDone_eq hpc]; exact frameData_congr (t := { s with .. }) rfl rfl j i

/-- What `d` rows leave in panel RAM (R72). -/
theorem rowsDone_panel {d : Nat} (h : RowReady s) (hd : s.cnt.j + d ≤ 296) : RowReady (s.rowsDone op m d) ∧
    ∀ x y : Nat, x < 16 → (s.rowsDone op m d).panel.ramAt x y =
      if s.cnt.j ≤ y ∧ y < s.cnt.j + d then some (frameData op s y x) else s.panel.ramAt x y := by
  induction d generalizing s with
  | zero => exact ⟨h, fun x y _ => by rw [if_neg (by omega)]; rfl⟩
  | succ d ih =>
    obtain ⟨hready, hrow⟩ := rowDone_panel (m := m s.cnt.j) hpc h (by omega)
    obtain ⟨hready', hrows⟩ := ih (rowDone_pc hpc (m s.cnt.j)) hready (by rw [rowDone_j hpc]; omega)
    refine ⟨hready', fun x y hx => (hrows x y hx).trans ?_⟩
    rw [rowDone_j hpc, frameData_rowDone hpc, hrow x y hx]
    by_cases hy : y = s.cnt.j
    · subst hy
      rw [if_neg (by omega), if_pos rfl, if_pos (by omega)]
    · rw [if_neg hy]
      exact if_congr (by omega) rfl rfl

end RowsDone

/-- `d + 1` rows of the loop. `P` is what holds of their waiting states. -/
theorem rows_runs {P : State → Prop} {op : HostOp} (hop : FrameOp op) {k d : Nat} {m : Nat → Nat} {s : State}
    (hact : s.flags.active = true) (hpc : s.pc = ⟨.op op, 2⟩) (hd : s.cnt.j + d < 296) (hpolls : ∀ j, j < 296 → PollsAllowed s.cfg (m j))
    (hP : ∀ i, i ≤ d → ∀ u, InRow op (s.rowsDone op m i) u →
      (RowReady (s.rowsDone op m i) → KeepsRowsBefore (s.rowsDone op m i) u) → P u) :
    Runs P (k + 3) s (rowsEvents s.cfg (frameData op s) m s.cnt.j (d + 1)) 12 (s.rowsDone op m (d + 1)) := by
  induction d generalizing s k with
  | zero =>
    refine (frameRow_runs hop hact hpc hd (hpolls _ hd) (hP 0 (Nat.le_refl 0))).copy ?_ rfl
    simp [rowsEvents, rowData]
  | succ d ih =>
    have hrow := frameRow_runs (k := k) (m := m s.cnt.j) hop hact hpc (by omega) (hpolls _ (by omega)) (hP 0 (Nat.zero_le _))
    have hrest := ih (k := 9) (s := s.rowDone op (m s.cnt.j)) (by rw [rowDone_eq hpc]; exact hact) (rowDone_pc hpc _)
      (by rw [rowDone_j hpc]; omega) (by rw [hrow.cfg]; exact hpolls) (fun i hi => hP (i + 1) (by omega))
    rw [hrow.cfg, frameData_rowDone hpc, rowDone_j hpc] at hrest
    exact (hrow.trans hrest).copy (rowsEvents_succ _ _ _ _ _) rfl

/-! ### The window before the rows -/

/-- The state at SET_WINDOW's first line, called from the loop. -/
def State.windowCalled (s : State) : State := (s.setTmp s.tmp.wholeWindow).call (.op .setWindow)

/-- The state after the loop's SET_WINDOW, at the row loop's test. -/
def State.windowDone (s : State) : State := { s with
  pc := ⟨s.pc.routine, 2⟩, hist := s.hist ++ windowEvents s.cfg 0#16 0#16 127#16 295#16,
  pins := { s.pins with dc := .driven .high, cs := .driven .high }, cnt := { s.cnt with j := 0 },
  tmp := { s.tmp.wholeWindow with tByte := hi8 295#16 },
  shadow := { s.shadow with winXs := 0#8, winXe := 15#8, winYs := 0#16, winYe := 295#16, winValid := true },
  panel := (sendAll (.op .setWindow) 0 (windowCalls s.windowCalled.tmp) s.windowCalled).panel }

theorem windowDone_runs {op : HostOp} (hop : FrameOp op) {k : Nat} {s : State} (hact : s.flags.active = true)
    (hpc : s.pc = ⟨.op op, 0⟩) :
    Runs (fun _ => True) (k + 2) s (windowEvents s.cfg 0#16 0#16 127#16 295#16) 13 s.windowDone := by
  have hcall : Runs (fun _ => True) (k + 2) s [] (k + 1) s.windowCalled :=
    runs_silent (by rw [line_frame hop hpc]; rfl) rfl rfl rfl rfl
  have hwindow := window_runs (k := k) (s := s.windowCalled) hact rfl
  have hret (p : Panel) : Runs (fun _ => True) 15 (s.windowCalled.windowSet p) [] 14
      (returnTo ⟨s.pc.routine, s.pc.step + 1⟩ s.rs (s.windowCalled.windowSet p)) := runs_return rfl rfl rfl rfl rfl rfl
  refine (hcall.trans (hwindow.trans ((hret _).trans (runs_silent (t := s.windowDone) ?_ ?_ ?_ ?_ ?_)))).copy (by simp; rfl) rfl
  · rw [line_frame hop (n := 1) (by simp [returnTo, hpc, afterCall_frame hop, frameLoopAfter])]
    simp [frameLoopLine, returnTo, hpc, afterCall_frame hop, frameLoopAfter, State.windowDone, State.windowCalled, State.windowSet,
      State.call, State.setRs, State.setPc, State.setCnt, State.advance, State.setTmp, Params.wholeWindow, xb]
  all_goals
    simp [returnTo, hpc, afterCall_frame hop, frameLoopAfter, State.windowDone, State.windowCalled, State.windowSet, Params.wholeWindow]

/-- After the window of the whole panel the rows find it ready. -/
theorem windowDone_ready {s : State} (hidle : s.panel.refreshing = false) (hawake : s.panel.asleep = false) : RowReady s.windowDone := by
  constructor <;>
    simp [State.windowDone, State.windowCalled, sendAll, windowCalls, Call.sent, State.commandSent, State.dataSent, State.frameSent,
      afterCall, setWindowAfter, noteWindow, Panel.windowSent, windowOk, Panel.begin, Panel.meet, Panel.enter, Panel.data, hidle, hawake,
      Params.wholeWindow, xb]

/-! ### The refresh after the rows -/

/-- The state at TURN_ON_DISPLAY's first line, called from the loop. -/
def State.refreshCalled (s : State) : State := (s.goto 9).call (.op .turnOnDisplay)

/-- The state after the refresh, at the loop's last line. -/
def State.refreshDone (m : Nat) (s : State) : State := { s with
  pc := ⟨s.pc.routine, 10⟩, life := .ready, hist := s.hist ++ refreshEvents s.cfg m,
  pins := { s.pins with dc := .driven .low, cs := .driven .high }, tmp := { s.tmp with tByte := s.cfg.opTerminateFrameRw },
  flags := { s.flags with busySample := false }, cnt := { s.cnt with polls := m },
  panel := { s.refreshCalled.updateSent.activateSent.panel with
    shown := s.refreshCalled.updateSent.activateSent.panel.ram, refreshing := false } }

theorem refreshDone_runs {P : State → Prop} {op : HostOp} (hop : FrameOp op) {k m : Nat} {s : State} (hact : s.flags.active = true)
    (hpc : s.pc = ⟨.op op, 2⟩) (hj : s.cnt.j = 296) (hpolls : PollsAllowed s.cfg m)
    (hupdate : ∀ i (c : Call), updateCalls[i]? = some c →
      ∀ u, Waiting (c.enter (sendAll (.op .turnOnDisplay) 0 (updateCalls.take i) s.refreshCalled)) u → P u)
    (hactivate : ∀ i (c : Call), activateCalls[i]? = some c →
      ∀ u, Waiting (c.enter (sendAll (.op .turnOnDisplay) 2 (activateCalls.take i) s.refreshCalled.updateSent)) u → P u)
    (hwait : ∀ u, Waiting (s.refreshCalled.updateSent.activateSent.call .waitIdle) u → P u) :
    Runs P (k + 3) s (refreshEvents s.cfg m) 14 (s.refreshDone m) := by
  have htest : Runs P (k + 3) s [] (k + 2) (s.goto 9) :=
    runs_silent (by simp [line_frame hop hpc, frameLoopLine, Config.height, hj]) rfl rfl rfl rfl
  have hcall : Runs P (k + 2) (s.goto 9) [] (k + 1) s.refreshCalled :=
    runs_silent (by rw [line_frame hop (n := 9) (by simp [hpc])]; rfl) rfl rfl rfl rfl
  have hprepare := update_runs (k := k) (s := s.refreshCalled) hact rfl hupdate
  have hbegin := activate_runs (k := 14) (m := m) (s := s.refreshCalled.updateSent) (by rw [updateSent_eq rfl]; exact hact)
    (by rw [updateSent_eq rfl]) (by rw [updateSent_eq rfl]; exact hpolls) hactivate hwait
  have hstate := refreshWaited_eq (s := s.refreshCalled) m rfl
  have hruns := htest.trans (hcall.trans (hprepare.trans hbegin))
  have hcfg : s.refreshCalled.updateSent.cfg = s.cfg := by rw [updateSent_eq rfl]; rfl
  rw [hcfg] at hruns
  generalize hend : s.refreshCalled.updateSent.refreshWaited m = u at hruns hstate
  have hline : line u = .ret (showRam (u.setLife .ready)) := by rw [hstate]; rfl
  have hret : Runs P 15 u [] 14 _ := runs_return hline (by rw [hstate]; rfl) rfl rfl rfl rfl
  refine (hruns.trans hret).copy ?_ ?_
  · simp [refreshEvents, State.refreshCalled]
  · rw [hstate]
    simp [returnTo, hpc, afterCall_frame hop, frameLoopAfter, State.refreshDone, showRam, State.setLife, State.setPanel, State.setRs,
      State.setPc, State.refreshCalled, State.call, State.goto]

end Sys2Proof.Machine

/-! ## WRITE_FRAME, CLEAR and DISPLAY (R181 to R184) -/

namespace Sys2Proof.Machine

open Sys2Proof.Safety

theorem frameLoopEvents_eq (c : Config) (src : Nat → Nat → Byte) (m : Nat → Nat) : frameLoopEvents c src m =
    windowEvents c 0#16 0#16 127#16 295#16 ++ rowsEvents c src m 0 296 ++ refreshEvents c (m 296) := by
  rw [frameLoopEvents, rowsEvents, ← List.range_eq_range']

/-- The state after the rows. -/
def State.rowsEnd (op : HostOp) (m : Nat → Nat) (s : State) : State := s.windowDone.rowsDone op m 296

/-- The state at the last line of the frame loop. -/
def State.frameEnd (op : HostOp) (m : Nat → Nat) (s : State) : State := (s.rowsEnd op m).refreshDone (m 296)

section Frame

variable {op : HostOp} {m : Nat → Nat} {s : State}

theorem frameData_writeFrame (s : State) : frameData .writeFrame s = fun j i => s.fb.read (16 * j + i) := by
  funext j i
  simp [frameData]

theorem frameData_clear (s : State) : frameData .clear s = fun _ _ => s.tmp.tFill := by
  funext j i
  simp [frameData]

theorem frameData_windowDone (op : HostOp) (s : State) : frameData op s.windowDone = frameData op s := by
  funext j i
  exact frameData_congr (t := s.windowDone) rfl rfl j i

variable (hpc : s.pc = ⟨.op op, 0⟩)

include hpc

theorem windowDone_pc : s.windowDone.pc = ⟨.op op, 2⟩ := by simp [State.windowDone, hpc]

theorem rowsEnd_pc : (s.rowsEnd op m).pc = ⟨.op op, 2⟩ := rowsDone_pc (windowDone_pc hpc) 296

theorem rowsEnd_j : (s.rowsEnd op m).cnt.j = 296 := rowsDone_j (windowDone_pc hpc) 296

theorem rowsEnd_eq : s.rowsEnd op m = { s with
    pc := ⟨.op op, 2⟩, flags := { s.flags with busySample := false },
    shadow := { winXs := 0#8, winXe := 15#8, winYs := 0#16, winYe := 295#16, curX := 0#8, curY := 295#16, winValid := true,
                curValid := true },
    pins := { s.pins with dc := .driven .high, cs := .driven .high }, cnt := { s.cnt with j := 296, i := 16, polls := m 295 },
    tmp := { s.tmp with tByte := frameData op s 295 15, tX0 := 0#16, tY0 := 295#16, tX1 := 127#16, tY1 := 295#16 },
    hist := s.hist ++ (windowEvents s.cfg 0#16 0#16 127#16 295#16 ++ rowsEvents s.cfg (frameData op s) m 0 296),
    panel := (s.rowsEnd op m).panel } := by
  have heq := rowsDone_eq (m := m) (windowDone_pc hpc) 295
  rw [frameData_windowDone] at heq
  refine heq.trans ?_
  simp [State.windowDone, Params.wholeWindow, State.rowsEnd, hpc]

theorem frameEnd_eq : s.frameEnd op m = { s with
    pc := ⟨.op op, 10⟩, life := .ready, flags := { s.flags with busySample := false },
    shadow := { winXs := 0#8, winXe := 15#8, winYs := 0#16, winYe := 295#16, curX := 0#8, curY := 295#16, winValid := true,
                curValid := true },
    pins := { s.pins with dc := .driven .low, cs := .driven .high }, cnt := { s.cnt with j := 296, i := 16, polls := m 296 },
    tmp := { s.tmp with tByte := s.cfg.opTerminateFrameRw, tX0 := 0#16, tY0 := 295#16, tX1 := 127#16, tY1 := 295#16 },
    hist := s.hist ++ frameLoopEvents s.cfg (frameData op s) m, panel := (s.frameEnd op m).panel } := by
  have heq := rowsEnd_eq (m := m) hpc
  rw [frameLoopEvents_eq]
  unfold State.frameEnd
  generalize s.rowsEnd op m = u at heq
  rw [State.refreshDone]
  generalize Panel.mk _ _ _ _ _ _ _ _ _ _ = p
  rw [heq]
  simp

/-- The whole frame loop. -/
theorem frame_runs (hop : FrameOp op) {k : Nat} (hact : s.flags.active = true) (hpolls : ∀ j, j ≤ 296 → PollsAllowed s.cfg (m j)) :
    Runs (fun _ => True) (k + 2) s (frameLoopEvents s.cfg (frameData op s) m) 14 (s.frameEnd op m) := by
  have hwindow := windowDone_runs (k := k) hop hact hpc
  have hrows := rows_runs (P := fun _ => True) (k := 10) (d := 295) (m := m) (s := s.windowDone) hop hact (windowDone_pc hpc)
    (by simp [State.windowDone])
    (fun j hj => hpolls j (Nat.le_of_lt hj)) fun _ _ _ _ _ => trivial
  have hend : (s.rowsEnd op m).flags.active = true ∧ (s.rowsEnd op m).cfg = s.cfg := by
    rw [rowsEnd_eq hpc]
    exact ⟨hact, rfl⟩
  have hrefresh := refreshDone_runs (P := fun _ => True) (k := 9) (m := m 296) hop hend.1 (rowsEnd_pc hpc) (rowsEnd_j hpc)
    (by rw [hend.2]; exact hpolls 296 (Nat.le_refl _)) (fun _ _ _ _ _ => trivial) (fun _ _ _ _ _ => trivial) fun _ _ => trivial
  rw [hend.2] at hrefresh
  rw [frameData_windowDone] at hrows
  exact ((hwindow.trans hrows).trans hrefresh).copy (frameLoopEvents_eq _ _ _) rfl

/-- After the rows panel RAM holds the frame, if the panel was awake with no refresh under way (R72). -/
theorem rowsEnd_panel (hidle : s.panel.refreshing = false) (hawake : s.panel.asleep = false) :
    (s.rowsEnd op m).panel.refreshing = false ∧
      ∀ x y : Nat, x < 16 → y < 296 → (s.rowsEnd op m).panel.ramAt x y = some (frameData op s y x) := by
  obtain ⟨hready, hram⟩ := rowsDone_panel (d := 296) (m := m) (windowDone_pc hpc) (windowDone_ready hidle hawake)
    (by simp [State.windowDone])
  unfold State.rowsEnd
  refine ⟨hready.idle, fun x y hx hy => ?_⟩
  rw [hram x y hx, if_pos (by simp [State.windowDone, hy]), frameData_windowDone]

omit hpc in
/-- After the refresh the glass shows what panel RAM held before it, if no refresh was under way. -/
theorem refreshDone_shown (m : Nat) (hidle : s.panel.refreshing = false) (x y : Nat) :
    (s.refreshDone m).panel.shownAt x y = s.panel.ramAt x y := by
  obtain ⟨-, -, hsame⟩ := refresh_panel (s := s.refreshCalled) rfl hidle
  exact congrArg (Memory.lookup · (16 * y + x)) hsame

/-- After the refresh the glass shows the frame, if the panel was awake with no refresh under way (R72). -/
theorem frameEnd_shown (hidle : s.panel.refreshing = false) (hawake : s.panel.asleep = false) {x y : Nat} (hx : x < 16) (hy : y < 296) :
    (s.frameEnd op m).panel.shownAt x y = some (frameData op s y x) := by
  obtain ⟨hidle', hram⟩ := rowsEnd_panel (m := m) hpc hidle hawake
  rw [State.frameEnd, refreshDone_shown _ hidle', hram x y hx hy]

end Frame

end Sys2Proof.Machine

namespace Sys2Proof.Proofs

open Sys2Proof.Machine Sys2Proof.Safety

/-! ### The requests of the loop -/

theorem rowEvents_length (c : Config) (j m : Nat) {row : List Byte} (hrow : row.length = 16) :
    (rowEvents c j m row).length = 89 + 2 * m := by
  rw [rowEvents, List.length_append, cursorEvents_length, packetEvents_length, hrow]
  omega

theorem rowStart_succ (m : Nat → Nat) (j : Nat) : rowStart m (j + 1) = rowStart m j + (89 + 2 * m j) := by
  simp only [rowStart, pollsBefore]
  omega

theorem rowsEvents_length (c : Config) (src : Nat → Nat → Byte) (m : Nat → Nat) (j d : Nat) :
    rowStart m j + (rowsEvents c src m j d).length = rowStart m (j + d) := by
  induction d generalizing j with
  | zero => rfl
  | succ d ih =>
    rw [rowsEvents_succ, List.length_append, rowEvents_length _ _ _ (by simp), ← Nat.add_assoc, ← rowStart_succ, ih, Nat.add_right_comm,
      Nat.add_assoc]

theorem frameLoopEvents_length (c : Config) (src : Nat → Nat → Byte) (m : Nat → Nat) :
    (frameLoopEvents c src m).length = frameRequests m := by
  have hrows := rowsEvents_length c src m 0 296
  rw [frameLoopEvents_eq, List.length_append, List.length_append, windowEvents_length, refreshEvents_length]
  simp only [rowStart, frameRequests, show pollsBefore m 0 = 0 from rfl, show pollsBefore m 297 = pollsBefore m 296 + m 296 from rfl,
    Nat.zero_add] at hrows ⊢
  omega

theorem frameRequests_succ (m : Nat → Nat) : frameRequests m = 26392 + 2 * pollsBefore m 297 + 1 := by
  rw [frameRequests]
  omega

theorem levels_rows {s : State} {m : Nat → Nat} {j d : Nat} (c : Config) (src : Nat → Nat → Byte)
    (h : ∀ i, i < j + d → BusyFor s (rowStart m i + 20) (m i)) : Levels s (s.hist.length + rowStart m j) (rowsEvents c src m j d) := by
  induction d generalizing j with
  | zero => exact levels_nil _ _
  | succ d ih =>
    obtain ⟨hbusy, hlow⟩ := h j (by omega)
    rw [← Nat.add_assoc] at hbusy hlow
    rw [rowsEvents_succ, levels_append, rowEvents_length _ _ _ (by simp), Nat.add_assoc, ← rowStart_succ, rowEvents, levels_append]
    exact ⟨⟨levels_cursor _ _ _ hbusy hlow, levels_packet _ _ _ _⟩, ih fun i hi => h i (by omega)⟩

theorem levels_frameLoop {s : State} {m : Nat → Nat} (c : Config) (src : Nat → Nat → Byte) (h : FrameWaits s m) :
    Levels s s.hist.length (frameLoopEvents c src m) := by
  obtain ⟨hrows, ⟨hbusy, hlow⟩, -⟩ := h
  rw [← Nat.add_assoc] at hbusy hlow
  have hstart : (windowEvents c 0#16 0#16 127#16 295#16).length = rowStart m 0 := windowEvents_length _ _ _ _ _
  rw [frameLoopEvents_eq, levels_append, levels_append, List.length_append, hstart, rowsEvents_length]
  exact ⟨⟨levels_window _ _ _ _ _ _ _, levels_rows c src fun i hi => hrows i (by omega)⟩, levels_refresh _ hbusy hlow⟩

theorem answers_frameLoop {s : State} {m : Nat → Nat} (c : Config) (src : Nat → Nat → Byte) (hquiet : Quiet s (frameRequests m))
    (h : FrameWaits s m) : Answers s (frameLoopEvents c src m) :=
  ⟨by rw [frameLoopEvents_length]; exact hquiet, levels_frameLoop c src h⟩

/-- WRITE_FRAME or CLEAR from its start to its end. -/
theorem frameOp_completes {op : HostOp} (hop : FrameOp op) {s : State} {m : Nat → Nat} (hact : s.flags.active = false)
    (hacc : acceptance op s = none) (hquiet : Quiet s (frameRequests m)) (hwaits : FrameWaits s m) :
    ∃ t, exec op.instr s = .next t ∧ t.flags.active = true ∧ t.hist = s.hist ∧
      run (frameRequests m) t = .next ((accept op s).frameEnd op m).finish := by
  have hpc := accept_pc op s
  have hruns := frame_runs (k := 14) (m := m) (s := accept op s) hpc hop (by simp)
    fun j hj => by simpa using pollsAllowed_of_within (hwaits.2.2 j hj)
  rw [frameRequests_succ]
  refine op_completes hact hacc hruns (f := (accept op s).frameEnd op m) ?_ ?_ ?_ ?_
  · rw [line_frame hop (n := 10) (by rw [frameEnd_eq hpc])]
    rfl
  · rw [frameEnd_eq hpc]
    simp
  · rw [frameLoopEvents_length, frameRequests_succ]
  · exact answers_frameLoop _ _ hquiet hwaits

/-- Settles O42: the frame loop over `FB`. -/
theorem writeFrameCompletes : Obligations.WriteFrameCompletes := by
  intro s m hact hlife hvalid hquiet hwaits
  obtain ⟨t, hexec, hactive, hhist, hrun⟩ := frameOp_completes (.inl rfl) hact (by simp [acceptance, hlife, verdict, hvalid]) hquiet hwaits
  refine ⟨t, ((accept .writeFrame s).frameEnd .writeFrame m).panel, hexec, hactive, hhist, hrun.trans ?_, fun hawake hidle x y hx hy =>
    (frameEnd_shown (accept_pc .writeFrame s) (by simpa using hidle) (by simpa using hawake) hx hy).trans (by simp [frameData_writeFrame])⟩
  conv_lhs => rw [frameEnd_eq (accept_pc .writeFrame s), frameData_writeFrame]
  simp [State.finish, State.setPc, State.setFlags, State.setRes, accept, sample, State.setRs, hact, hlife]

/-- Settles O43: the frame loop over the color sampled at acceptance. -/
theorem clearCompletes : Obligations.ClearCompletes := by
  intro s m hact hlife hquiet hwaits
  obtain ⟨t, hexec, hactive, hhist, hrun⟩ := frameOp_completes (.inr rfl) hact (by simp [acceptance, hlife, verdict]) hquiet hwaits
  refine ⟨t, ((accept .clear s).frameEnd .clear m).panel, hexec, hactive, hhist, hrun.trans ?_, fun hawake hidle x y hx hy =>
    (frameEnd_shown (accept_pc .clear s) (by simpa using hidle) (by simpa using hawake) hx hy).trans
      (by simp [frameData_clear, accept, sample])⟩
  conv_lhs => rw [frameEnd_eq (accept_pc .clear s), frameData_clear]
  simp [State.finish, State.setPc, State.setFlags, State.setRes, accept, sample, State.setRs, State.setTmp, hact, hlife]

theorem displayPacked_eq (s : State) (fb : Memory) : displayPacked s fb = { s with
    pc := ⟨.op .display, 1⟩, rs := [], fb := fb, cnt := packedCounters s.args.imgW s.cnt,
    flags := { s.flags with active := true, fbValid := true } } := by
  simp [displayPacked, State.packed, accept, sample, State.call, State.setFb, State.setFlags, State.setCnt, State.setRs, State.setPc]

/-- Settles O44: PACK's silent line, then the frame loop over the packed image. -/
theorem displayCompletes : Obligations.DisplayCompletes := by
  intro s fb m hact hlife hquiet hwaits hpack
  have hexec : exec .display s = settle 14 (displayPacked s fb) := by
    rw [show Instr.display = HostOp.display.instr from rfl, exec_hostOp,
      issue_accepted .display s hact (by simp [acceptance, hlife, verdict])]
    exact settle_display_packed 14 hpack
  have hpacked := displayPacked_eq s fb
  generalize displayPacked s fb = a at hexec hpacked
  have hcall : Runs (fun _ => True) 14 a [] 13 (a.call (.op .writeFrame)) := runs_silent (by rw [hpacked]; rfl) rfl rfl rfl rfl
  have hframe := frame_runs (k := 11) (m := m) (s := a.call (.op .writeFrame)) (op := .writeFrame) rfl (.inl rfl)
    (by rw [hpacked]; rfl) (by rw [hpacked]; exact fun j hj => pollsAllowed_of_within (hwaits.2.2 j hj))
  have hend := frameEnd_eq (op := .writeFrame) (m := m) (s := a.call (.op .writeFrame)) rfl
  have hshown := frameEnd_shown (op := .writeFrame) (m := m) (s := a.call (.op .writeFrame)) rfl
  rw [frameData_writeFrame] at hframe hend hshown
  generalize (a.call (.op .writeFrame)).frameEnd .writeFrame m = u at hframe hend hshown
  have hret : Runs (fun _ => True) 14 u [] 13 (returnTo ⟨.op .display, 2⟩ [] u) :=
    runs_return (by rw [line_frame (.inl rfl) (n := 10) (by rw [hend])]; rfl) (by rw [hend, hpacked]; rfl) rfl rfl rfl rfl
  obtain ⟨t, ht, hactive, hhist, hfb, hrun⟩ := exec_completes (n := 26392 + 2 * pollsBefore m 297) hexec (by rw [hpacked])
    (by rw [hpacked]) (by rw [hpacked]) ((hcall.trans (hframe.trans hret)).copy (List.append_nil _).symm rfl)
    (f := returnTo ⟨.op .display, 2⟩ [] u) rfl rfl (by rw [frameLoopEvents_length, frameRequests_succ])
    (answers_frameLoop _ _ hquiet hwaits)
  refine ⟨t, u.panel, ht, hactive, hhist, by rw [hfb, hpacked], ?_, fun hawake hidle x y hx hy => ?_⟩
  · rw [frameRequests_succ]
    refine hrun.trans ?_
    rw [hend, hpacked]
    simp [returnTo, afterCall, State.finish, State.setPc, State.setFlags, State.setRes, State.setRs, State.call, hact, hlife]
  · rw [hshown (by rw [hpacked]; exact hidle) (by rw [hpacked]; exact hawake) hx hy, hpacked]
    rfl


end Sys2Proof.Proofs

/-! ## A WRITE_FRAME that fails (R182) -/

namespace Sys2Proof.Machine

open Sys2Proof.Safety

theorem run_succ_last {n : Nat} {s t : State} (h : run n s = .next t) : run (n + 1) s = step t := by
  induction n generalizing s with
  | zero =>
    cases h
    rw [run_succ_eq]
    cases step t <;> rfl
  | succ n ih =>
    rw [run_succ_eq] at h ⊢
    cases hstep : step s with
    | next u => rw [hstep] at h; exact ih h
    | fault f => rw [hstep] at h; cases h
    | refused r => rw [hstep] at h; cases h

/-! ### The waiting states of the refresh -/

/-- Panel RAM in `u` is that of `s`, and no refresh is under way before the master activation. -/
def KeepsRam (s u : State) : Prop :=
  u.panel.ram = s.panel.ram ∧ (u.hist.length < s.hist.length + 8 → u.panel.refreshing = false)

section RefreshWaits

variable {op : HostOp} {s u v : State}

theorem KeepsRam.of_waiting (h : Waiting v u) (hram : v.panel.ram = s.panel.ram)
    (hidle : v.panel.refreshing = false ∨ s.hist.length + 8 ≤ v.hist.length) : KeepsRam s u := by
  obtain ⟨hpanel, -, hlen, -⟩ := h
  rw [KeepsRam, hpanel]
  exact ⟨hram, fun hlt => hidle.resolve_right (by omega)⟩

/-- A waiting state of TURN_ON_DISPLAY, called from the loop. -/
theorem inRow_of_refresh (h : Waiting v u) (hpc : s.pc.routine = .op op) (hj : v.cnt.j = s.refreshCalled.cnt.j) {n : Nat}
    (hrs : v.rs = ⟨.op .turnOnDisplay, n⟩ :: s.refreshCalled.rs) : InRow op s u := by
  refine .of_call_below (n := 8) (f := ⟨.op .turnOnDisplay, n⟩) h hpc hj (by simp) (hrs.trans ?_)
  simp [State.refreshCalled, State.call, State.goto, hpc]

theorem updateFrame_control {i : Nat} {c : Call} {t : State} (hc : updateCalls[i]? = some c) (hpc : t.pc = ⟨.op .turnOnDisplay, 0⟩) :
    let v := c.enter (sendAll (.op .turnOnDisplay) 0 (updateCalls.take i) t)
    v.cnt.j = t.cnt.j ∧ v.rs = ⟨.op .turnOnDisplay, i + 1⟩ :: t.rs := by
  rcases i with _ | _ | i <;> cases hc <;>
    simp [updateCalls, sendAll, Call.sent, Call.enter, State.callCommand, State.callData, State.call, State.commandSent, State.frameSent,
      afterCall, turnOnDisplayAfter, hpc]

theorem activateFrame_control {i : Nat} {c : Call} {t : State} (hc : activateCalls[i]? = some c)
    (hpc : t.pc = ⟨.op .turnOnDisplay, 2⟩) :
    let v := c.enter (sendAll (.op .turnOnDisplay) 2 (activateCalls.take i) t)
    v.cnt.j = t.cnt.j ∧ v.rs = ⟨.op .turnOnDisplay, i + 3⟩ :: t.rs ∧ t.hist.length ≤ v.hist.length := by
  rcases i with _ | _ | i <;> cases hc <;>
    simp [activateCalls, sendAll, Call.sent, Call.enter, State.callCommand, State.call, State.commandSent, State.frameSent,
      afterCall, turnOnDisplayAfter, hpc]

variable (hpc : s.pc.routine = .op op) (hidle : s.panel.refreshing = false)

include hpc hidle

theorem updateFrame_waits {i : Nat} {c : Call} (hc : updateCalls[i]? = some c)
    (hu : Waiting (c.enter (sendAll (.op .turnOnDisplay) 0 (updateCalls.take i) s.refreshCalled)) u) : InRow op s u ∧ KeepsRam s u := by
  obtain ⟨hj, hrs⟩ := updateFrame_control (t := s.refreshCalled) hc rfl
  refine ⟨inRow_of_refresh hu hpc hj hrs, .of_waiting hu ?_ (.inl ?_)⟩ <;> rcases i with _ | _ | i <;> cases hc <;>
    simp [updateCalls, sendAll, Call.sent, Call.enter, State.callCommand, State.callData, State.commandSent, State.frameSent,
      afterCall, turnOnDisplayAfter, State.refreshCalled, Panel.begin, Panel.enter, Panel.meet, hidle]

omit hpc hidle in
theorem updateSent_hist_length : s.refreshCalled.updateSent.hist.length = s.hist.length + 8 := by
  rw [updateSent_eq rfl]
  simp [packetEvents, packetFrames, frameEvents, State.refreshCalled]

theorem activateFrame_waits {i : Nat} {c : Call} (hc : activateCalls[i]? = some c)
    (hu : Waiting (c.enter (sendAll (.op .turnOnDisplay) 2 (activateCalls.take i) s.refreshCalled.updateSent)) u) :
    InRow op s u ∧ KeepsRam s u := by
  obtain ⟨hidle', hram, -⟩ := refresh_panel (s := s.refreshCalled) rfl hidle
  have hupdate := updateSent_eq (s := s.refreshCalled) rfl
  have hhist := updateSent_hist_length (s := s)
  obtain ⟨hj, hrs, hlen⟩ := activateFrame_control (t := s.refreshCalled.updateSent) hc (by rw [hupdate])
  rw [congrArg State.rs hupdate] at hrs
  refine ⟨inRow_of_refresh hu hpc (hj.trans (by rw [hupdate])) hrs, .of_waiting hu ?_ (.inr (hhist.symm.trans_le hlen))⟩
  refine Eq.trans ?_ hram
  rcases i with _ | _ | i <;> cases hc <;>
    simp [activateCalls, sendAll, Call.sent, Call.enter, State.callCommand, State.commandSent, State.frameSent, afterCall,
      turnOnDisplayAfter, Panel.begin, Panel.enter, Panel.meet, hidle']

theorem refreshWait_waits (hu : Waiting (s.refreshCalled.updateSent.activateSent.call .waitIdle) u) : InRow op s u ∧ KeepsRam s u := by
  obtain ⟨-, -, hram⟩ := refresh_panel (s := s.refreshCalled) rfl hidle
  have hupdate := updateSent_eq (s := s.refreshCalled) rfl
  have hactivate := activateSent_eq (s := s.refreshCalled.updateSent) (by rw [hupdate])
  refine ⟨inRow_of_refresh (n := 5) hu hpc ?_ ?_, .of_waiting hu hram (.inr ?_)⟩
  · rw [hactivate, hupdate]
    rfl
  · rw [hactivate, hupdate]
    rfl
  · rw [← updateSent_hist_length, hactivate]
    simp

end RefreshWaits

/-! ### The rest of the loop, from any row -/

theorem rowsDone_add (op : HostOp) (m : Nat → Nat) (d d' : Nat) (s : State) :
    (s.rowsDone op m d).rowsDone op m d' = s.rowsDone op m (d + d') := by
  induction d generalizing s with
  | zero => rw [Nat.zero_add, State.rowsDone]
  | succ d ih => rw [Nat.add_right_comm, State.rowsDone, State.rowsDone, ih]

/-- The rows from row `j` on, then the refresh. `P` is what holds of their waiting states. -/
theorem rest_runs {P : State → Prop} {op : HostOp} (hop : FrameOp op) {k d : Nat} {m : Nat → Nat} {s : State}
    (hact : s.flags.active = true) (hpc : s.pc = ⟨.op op, 2⟩) (hd : s.cnt.j + d = 296) (hready : RowReady s)
    (hpolls : ∀ j, j ≤ 296 → PollsAllowed s.cfg (m j))
    (hrow : ∀ i, i < d → ∀ u, InRow op (s.rowsDone op m i) u → KeepsRowsBefore (s.rowsDone op m i) u → P u)
    (hrefresh : ∀ u, InRow op (s.rowsDone op m d) u → KeepsRam (s.rowsDone op m d) u → P u) :
    Runs P (k + 3) s (rowsEvents s.cfg (frameData op s) m s.cnt.j d ++ refreshEvents s.cfg (m 296)) 14
      ((s.rowsDone op m d).refreshDone (m 296)) := by
  have hend (k : Nat) (t : State) (ht : s.rowsDone op m d = t) (hactive : t.flags.active = true) (hcfg : t.cfg = s.cfg) :
      Runs P (k + 3) t (refreshEvents s.cfg (m 296)) 14 (t.refreshDone (m 296)) := by
    subst ht
    have hpc' := rowsDone_pc (m := m) hpc d
    have hop' : (s.rowsDone op m d).pc.routine = .op op := by rw [hpc']
    have hidle : (s.rowsDone op m d).panel.refreshing = false := (rowsDone_panel hpc hready (Nat.le_of_eq hd)).1.idle
    rw [← hcfg]
    refine refreshDone_runs hop hactive hpc' ((rowsDone_j hpc d).trans hd) (by rw [hcfg]; exact hpolls 296 (Nat.le_refl _))
      (fun i c hc u hu => ?_) (fun i c hc u hu => ?_) fun u hu => ?_
    · obtain ⟨hin, hkeeps⟩ := updateFrame_waits hop' hidle hc hu
      exact hrefresh u hin hkeeps
    · obtain ⟨hin, hkeeps⟩ := activateFrame_waits hop' hidle hc hu
      exact hrefresh u hin hkeeps
    · obtain ⟨hin, hkeeps⟩ := refreshWait_waits hop' hidle hu
      exact hrefresh u hin hkeeps
  cases d with
  | zero => exact hend k s rfl hact rfl
  | succ d =>
    have hrows := rows_runs (k := k) (d := d) hop hact hpc (by omega) (fun j hj => hpolls j (Nat.le_of_lt hj))
      fun i hi u hin hkeeps => hrow i (by omega) u hin (hkeeps (rowsDone_panel hpc hready (by omega)).1)
    exact hrows.trans (hend 9 _ rfl (by rw [rowsDone_eq hpc]; exact hact) hrows.cfg)

end Sys2Proof.Machine

namespace Sys2Proof.Proofs

open Sys2Proof.Machine Sys2Proof.Safety

/-! ### Idle panels -/

/-- The events are those of a panel whose `BUSY` is `LOW`. -/
def LowReplies (es : List Event) : Prop := ∀ e ∈ es, e.reply = okReply e.req .low

theorem LowReplies.append {es es' : List Event} (h : LowReplies es) (h' : LowReplies es') : LowReplies (es ++ es') :=
  fun e he => (List.mem_append.mp he).elim (h e) (h' e)

theorem lowReplies_packet (cmd : Byte) (data : List Byte) : LowReplies (packetEvents cmd data) := by
  intro e he
  obtain ⟨f, -, hf⟩ := List.mem_flatMap.mp he
  simp only [frameEvents, List.mem_cons, List.not_mem_nil, or_false] at hf
  rcases hf with rfl | rfl | rfl | rfl <;> rfl

theorem lowReplies_wait : LowReplies (waitEvents 0) := by
  intro e he
  cases List.mem_singleton.mp he
  rfl

theorem lowReplies_frameLoop (c : Config) (src : Nat → Nat → Byte) : LowReplies (frameLoopEvents c src fun _ => 0) := by
  have hcursor (x y : Word16) : LowReplies (cursorEvents c x y 0) :=
    ((lowReplies_packet _ _).append (lowReplies_packet _ _)).append lowReplies_wait
  refine LowReplies.append (LowReplies.append ((lowReplies_packet _ _).append (lowReplies_packet _ _)) fun e he => ?_)
    ((((lowReplies_packet _ _).append (lowReplies_packet _ _)).append (lowReplies_packet _ _)).append lowReplies_wait)
  obtain ⟨j, -, hj⟩ := List.mem_flatMap.mp he
  exact (hcursor _ _).append (lowReplies_packet _ _) e hj

/-- What an idle panel answers to the first `n` requests, none failing. -/
theorem answers_take {s : State} {n : Nat} {es : List Event} (hquiet : Quiet s n) (hidle : IdlePanel s n) (hn : n ≤ es.length)
    (h : LowReplies es) : Answers s (es.take n) := by
  refine ⟨by rw [List.length_take_of_le hn]; exact hquiet, fun i e he => ?_⟩
  rw [List.getElem?_take] at he
  split at he
  · rename_i hi
    rw [hidle i hi]
    exact h e (List.mem_of_getElem? he)
  · cases he

/-! ### The rows kept -/

/-- In `u`, a waiting state of a WRITE_FRAME, the rows 0 to `r` are sent and in panel RAM, and no refresh is under way before `limit`
events. -/
structure RowsKept (fb : Memory) (r limit : Nat) (u : State) : Prop where
  rows : r < rowsSent u
  ram : ∀ x y : Nat, x < 16 → y ≤ r → u.panel.ramAt x y = some (fb.read (16 * y + x))
  idle : u.hist.length < limit → u.panel.refreshing = false
  running : runningRoutine u.pc u.rs = .op .writeFrame

/-- The failing request of such a state. -/
theorem step_fails {fb : Memory} {r limit : Nat} {u : State} {q : Request} (h : RowsKept fb r limit u) (hact : u.flags.active = true)
    (hline : line u = .ask q) (hfail : u.failsAt u.hist.length = true) :
    ∃ t, step u = .next t ∧ t.flags.active = false ∧ t.life = .faulted ∧ t.res.errCode = .transportFailure ∧ t.fb = u.fb ∧
      t.hist = u.hist ++ [⟨q, .fail⟩] ∧
      (∀ x y : Nat, x < 16 → y ≤ r → t.panel.leftAt x y = some (fb.read (16 * y + x))) ∧
      (u.hist.length < limit → t.panel.refreshing = false) ∧ t.panel.ram = [] ∧ t.panel.shown = [] := by
  refine ⟨_, transportFailureAborts u q .writeFrame hact hline hfail h.running, rfl, rfl, rfl, rfl, rfl, fun x y hx hy => ?_, h.idle,
    rfl, rfl⟩
  have hrows := h.rows
  rw [Panel.failed_leftAt _ _ _ _ hx, if_pos (by omega)]
  exact h.ram x y hx hy

section Kept

variable {s : State} {m : Nat → Nat} (hpc : s.pc = ⟨.op .writeFrame, 0⟩) (hrs : s.rs = [])

include hpc

theorem rowsDone_hist_length (d : Nat) :
    (s.windowDone.rowsDone .writeFrame m d).hist.length = s.hist.length + rowStart m d := by
  have hstart : s.windowDone.hist.length = s.hist.length + rowStart m 0 := by
    simp [State.windowDone, windowEvents_length, rowStart, pollsBefore]
  cases d with
  | zero => exact hstart
  | succ d =>
    have hrows := rowsEvents_length s.windowDone.cfg (frameData .writeFrame s.windowDone) m 0 (d + 1)
    rw [rowsDone_eq (windowDone_pc hpc), List.length_append, hstart, Nat.add_assoc]
    exact congrArg (s.hist.length + ·) (hrows.trans (by rw [Nat.zero_add]))

include hrs

theorem inRow_kept {d : Nat} {u : State} (h : InRow .writeFrame (s.windowDone.rowsDone .writeFrame m d) u) :
    rowsSent u = d ∧ runningRoutine u.pc u.rs = .op .writeFrame := by
  have hj := rowsDone_j (m := m) (windowDone_pc hpc) d
  refine ⟨(h.rows rfl).trans (hj.trans (Nat.zero_add d)), h.running.trans ?_⟩
  rw [rowsDone_pc (windowDone_pc hpc), rowsDone_rs (windowDone_pc hpc), show s.windowDone.rs = s.rs from rfl, hrs]
  rfl

variable (hidle : s.panel.refreshing = false) (hawake : s.panel.asleep = false)

include hidle hawake

omit hrs in
theorem rowsDone_kept {d : Nat} (hd : d ≤ 296) : RowReady (s.windowDone.rowsDone .writeFrame m d) ∧
    ∀ x y : Nat, x < 16 → y < d → (s.windowDone.rowsDone .writeFrame m d).panel.ramAt x y = some (s.fb.read (16 * y + x)) := by
  obtain ⟨hready, hram⟩ := rowsDone_panel (m := m) (d := d) (windowDone_pc hpc) (windowDone_ready hidle hawake)
    (by simpa [State.windowDone] using hd)
  refine ⟨hready, fun x y hx hy => ?_⟩
  rw [hram x y hx, if_pos (by simpa [State.windowDone] using hy), frameData_windowDone, frameData_writeFrame]

/-- The waiting states of row `d`. -/
theorem row_keeps {r d limit : Nat} {u : State} (hd : d ≤ 296) (hr : r < d)
    (h : InRow .writeFrame (s.windowDone.rowsDone .writeFrame m d) u)
    (hkeeps : KeepsRowsBefore (s.windowDone.rowsDone .writeFrame m d) u) : RowsKept s.fb r limit u := by
  obtain ⟨hrows, hrunning⟩ := inRow_kept hpc hrs h
  obtain ⟨-, hram⟩ := rowsDone_kept (m := m) hpc hidle hawake hd
  obtain ⟨hidle', hbefore⟩ := hkeeps
  rw [rowsDone_j (windowDone_pc hpc), show s.windowDone.cnt.j = 0 from rfl, Nat.zero_add] at hbefore
  refine ⟨by rw [hrows]; exact hr, fun x y hx hy => ?_, fun _ => hidle', hrunning⟩
  rw [← hram x y hx (by omega)]
  exact hbefore (16 * y + x) (by omega)

/-- The waiting states of the refresh. -/
theorem refresh_keeps {r : Nat} {u : State} (hr : r < 296) (h : InRow .writeFrame (s.windowDone.rowsDone .writeFrame m 296) u)
    (hkeeps : KeepsRam (s.windowDone.rowsDone .writeFrame m 296) u) :
    RowsKept s.fb r (s.hist.length + (rowStart m 296 + 8)) u := by
  obtain ⟨hrows, hrunning⟩ := inRow_kept hpc hrs h
  obtain ⟨-, hram⟩ := rowsDone_kept (m := m) hpc hidle hawake (Nat.le_refl 296)
  obtain ⟨hsame, hbefore⟩ := hkeeps
  rw [rowsDone_hist_length hpc, Nat.add_assoc] at hbefore
  refine ⟨by rw [hrows]; exact hr, fun x y hx hy => ?_, hbefore, hrunning⟩
  rw [← hram x y hx (by omega)]
  exact congrArg (Memory.lookup · (16 * y + x)) hsame

/-- The loop after row `r`. -/
theorem kept_runs {r : Nat} (hr : r < 296) (hact : s.flags.active = true) (hpolls : ∀ j, j ≤ 296 → PollsAllowed s.cfg (m j)) :
    ∃ w t, Runs (fun _ => True) 16 s
        (windowEvents s.cfg 0#16 0#16 127#16 295#16 ++ rowsEvents s.cfg (fun j i => s.fb.read (16 * j + i)) m 0 (r + 1)) 12 w ∧
      Runs (RowsKept s.fb r (s.hist.length + (rowStart m 296 + 8))) 12 w
        (rowsEvents s.cfg (fun j i => s.fb.read (16 * j + i)) m (r + 1) (295 - r) ++ refreshEvents s.cfg (m 296)) 14 t := by
  have hop : FrameOp .writeFrame := .inl rfl
  have hwindow := windowDone_runs (k := 14) hop hact hpc
  have hrows := rows_runs (P := fun _ => True) (k := 10) (d := r) (m := m) (s := s.windowDone) hop hact (windowDone_pc hpc)
    (by simpa [State.windowDone] using hr) (fun j hj => hpolls j (Nat.le_of_lt hj)) fun _ _ _ _ _ => trivial
  have hsum (i : Nat) := rowsDone_add .writeFrame m (r + 1) i s.windowDone
  have hpc' := rowsDone_pc (m := m) (windowDone_pc hpc) (r + 1)
  have hj : (s.windowDone.rowsDone .writeFrame m (r + 1)).cnt.j = r + 1 :=
    (rowsDone_j (windowDone_pc hpc) (r + 1)).trans (Nat.zero_add _)
  have hrest := rest_runs (P := RowsKept s.fb r (s.hist.length + (rowStart m 296 + 8))) (k := 9) (d := 295 - r) (m := m) hop
    (by rw [rowsDone_eq (windowDone_pc hpc)]; exact hact) hpc' (by rw [hj]; omega)
    (rowsDone_kept hpc hidle hawake (Nat.succ_le_of_lt hr)).1 (by rw [hrows.cfg]; exact hpolls)
    (fun i hi u hin hkeeps => ?_) fun u hin hkeeps => ?_
  · rw [frameData_rowsDone (windowDone_pc hpc), frameData_windowDone, frameData_writeFrame, hrows.cfg, hj] at hrest
    rw [frameData_windowDone, frameData_writeFrame] at hrows
    exact ⟨_, _, hwindow.trans hrows, hrest⟩
  · rw [hsum i] at hin hkeeps
    exact row_keeps hpc hrs hidle hawake (by omega) (by omega) hin hkeeps
  · rw [hsum, show r + 1 + (295 - r) = 296 by omega] at hin hkeeps
    exact refresh_keeps hpc hrs hidle hawake hr hin hkeeps

end Kept

theorem frameLoopEvents_split (c : Config) (src : Nat → Nat → Byte) (m : Nat → Nat) {r : Nat} (hr : r < 296) :
    frameLoopEvents c src m = (windowEvents c 0#16 0#16 127#16 295#16 ++ rowsEvents c src m 0 (r + 1)) ++
      (rowsEvents c src m (r + 1) (295 - r) ++ refreshEvents c (m 296)) := by
  have hrows := rowsEvents_append c src m 0 (r + 1) (295 - r)
  rw [show r + 1 + (295 - r) = 296 by omega, Nat.zero_add] at hrows
  rw [frameLoopEvents_eq, hrows]
  simp only [List.append_assoc]

/-- The requests before the row after row `r`. -/
theorem firstRows_length (c : Config) (src : Nat → Nat → Byte) (m : Nat → Nat) (r : Nat) :
    (windowEvents c 0#16 0#16 127#16 295#16 ++ rowsEvents c src m 0 (r + 1)).length = rowStart m (r + 1) := by
  have hrows := rowsEvents_length c src m 0 (r + 1)
  rw [Nat.zero_add] at hrows
  rw [List.length_append, windowEvents_length, ← hrows]
  rfl

theorem exec_writeFrame {s : State} (hact : s.flags.active = false) (hlife : s.life = .ready) (hvalid : s.flags.fbValid = true) :
    exec .writeFrame s = settle settleFuel (accept .writeFrame s) := by
  rw [show Instr.writeFrame = HostOp.writeFrame.instr from rfl, exec_hostOp,
    issue_accepted .writeFrame s hact (by simp [acceptance, hlife, verdict, hvalid])]

/-- Settles O46: the loop up to row `r`, the waiting states after it, and the failing request. -/
theorem writeFrameFailureKeepsRows : Obligations.WriteFrameFailureKeepsRows := by
  intro s r n hact hlife hvalid hawake hidle hquiet hlow hfail hr hstart hn
  obtain ⟨w, w', hfirst, hrest⟩ := kept_runs (m := fun _ => 0) (accept_pc .writeFrame s) rfl (by simpa using hidle)
    (by simpa using hawake) hr (by simp) fun _ _ => pollsAllowed_zero _
  rw [accept_cfg, accept_fb] at hfirst
  rw [accept_cfg, accept_fb, accept_hist] at hrest
  have hsplit := frameLoopEvents_split s.cfg (fun j i => s.fb.read (16 * j + i)) (fun _ => 0) hr
  rw [← frameLoopEvents_length s.cfg fun j i => s.fb.read (16 * j + i)] at hn
  have hanswers := answers_take hquiet hlow (Nat.le_of_lt hn) (lowReplies_frameLoop s.cfg _)
  obtain ⟨e, he⟩ : ∃ e, (frameLoopEvents s.cfg (fun j i => s.fb.read (16 * j + i)) fun _ => 0)[n]? = some e :=
    ⟨_, List.getElem?_eq_getElem hn⟩
  obtain ⟨u, hu, hat, hkept⟩ := hfirst.waits_second hrest (by rw [firstRows_length]; exact hstart) (hsplit ▸ he)
    (answers_later (es := []) (hsplit ▸ hanswers) (by simp) (by simp) (by simp))
  obtain ⟨t, hsettle, q, hbegin⟩ := hfirst.begins (by simp [windowEvents, packetEvents, packetFrames, frameEvents])
  rw [← hsplit] at hat
  have hhist : u.hist = s.hist ++ (frameLoopEvents s.cfg (fun j i => s.fb.read (16 * j + i)) fun _ => 0).take n := by
    rw [hat.hist, accept_hist]
  have hlength : u.hist.length = s.hist.length + n := by rw [hhist, List.length_append, List.length_take_of_le (Nat.le_of_lt hn)]
  obtain ⟨v, hstep, hended, hlife', hcode, hfb, hhist', hleft, hrefresh, hram, hshown⟩ := step_fails hkept hat.active hat.line (by
    rw [hlength, State.failsAt_congr (hat.env.trans (accept_env _ s)) (hat.cfg.trans (accept_cfg _ s))]
    exact hfail)
  refine ⟨t, v, e, (exec_writeFrame hact hlife hvalid).trans hsettle, ?_, hended, hlife', hcode,
    hfb.trans (hat.fb.trans (accept_fb _ s)), he, by rw [hhist', hhist], hleft, fun hlt => hrefresh (by omega), hram, hshown⟩
  rw [run_succ_last ((resume_of_settle hsettle).symm.trans hu), hstep]

end Sys2Proof.Proofs
